-- ==== Sys2Proof/Word.lean ====
section
/-! DEFINITION. The word types of the two links and the shapes of what a command carries: the tachometer
channel, a byte as the actuator link's receiver takes it, a control link frame, and the payload fields of
the requests, each at the width Chapter 11 gives it. -/

namespace Sys2Proof

/-- One byte on either link (R179, R196). -/
abbrev Byte := BitVec 8

/-- A car index 0 to 7 (00_scope.md section 4.6). -/
abbrev CarId := Fin 8

/-- The eight car indexes in car-index order. -/
def allCars : List CarId := [0, 1, 2, 3, 4, 5, 6, 7]

/-- The two tachometer channels (section 1.1). -/
inductive Tacho where
  | a
  | b
deriving DecidableEq, Repr

/-- A byte received on the actuator link: its value, whether it had a framing error, and for how many µs the
line was idle between the byte before it and its start bit (R117, R118, log 36). -/
structure RxByte where
  value : Byte
  framingError : Bool
  pause : Nat
deriving DecidableEq, Repr

/-- A valid control link frame without its SYNC, LEN and CRC (Table 11-1): what the inbound FIFO holds. -/
structure Frame where
  kind : Byte
  tag : Byte
  payload : List Byte
deriving DecidableEq, Repr

/-- The payload of CONFIGURE_TRAIN (Table 11-4), every field as carried. -/
structure TrainPayload where
  carCount : Byte
  offsets : Vector (BitVec 16) 8
  dppA : BitVec 16
  dppB : BitVec 16
  odoLimit : Byte
  tiltMax : BitVec 16
  fixWindow : BitVec 16
  silenceTime : BitVec 16
  silenceReaction : Byte
  driveFaultReaction : Byte
  supervisionReaction : Byte
  noticeThreshold : Byte
  quietTime : BitVec 16
  absoluteTime : BitVec 16
deriving DecidableEq, Repr

/-- The payload of SET_TILT_LAW (Table 11-5). -/
structure LawPayload where
  k : BitVec 16
  deadBand : BitVec 16
  leadTime : BitVec 16
  tiltDegraded : BitVec 16
  omegaMax : BitVec 16
  accel : BitVec 16
deriving DecidableEq, Repr

/-- The payload of SET_TRAIN_SET (Table 11-5). -/
structure TrainSetPayload where
  vMin : BitVec 16
  supThreshold : BitVec 16
  supCount : Byte
  blankDist : BitVec 16
  matchWindow : BitVec 16
  lowWater : BitVec 32
deriving DecidableEq, Repr

/-- A segment record of ROUTE_APPEND (Table 11-6). The exempt code is the two bits 23–22 of the length
word, and the cap is there when bit 21 is. -/
structure SegmentPayload where
  segId : BitVec 16
  length : BitVec 21
  exempt : BitVec 2
  cStart : BitVec 16
  cEnd : BitVec 16
  hStart : BitVec 16
  hEnd : BitVec 16
  cap : Option (BitVec 16)
deriving DecidableEq, Repr

end Sys2Proof
end

