-- ==== Sys2Proof/Syntax.lean ====
section
/-! DEFINITION. The commands: one constructor for each row of spec/opcode_table.json. The rows carry no
fields, so the operands are what the rule of each row needs from outside (log 1, log 5, log 6, log 14,
log 19, log 20). Times are in µs of the module's time base (section 1.1). -/

namespace Sys2Proof

/-- The 43 steps of the module. `dt` is the time since the command before. A command that reports a timer's
expiry carries no time: it happens at the instant the timer expires. A request carries its frame's TAG and the
fields of its payload. -/
inductive Instr where
  /-- HARDWARE_RESET (R175): the supply came up during the reset, or RESET_N alone made it. -/
  | hardwareReset (supplyCameUp : Bool)
  /-- TACHO_PULSE (R1): the line of `ch` is high and has been so for `held` µs without interruption; `fell`
  says whether it has been low since the high level reported before. -/
  | tachoPulse (dt : Nat) (ch : Tacho) (fell : Bool) (held : Nat)
  /-- TACHO_STALL (R4). -/
  | tachoStall (ch : Tacho)
  /-- COMPARISON_WINDOW (R9, R10). -/
  | comparisonWindow
  /-- MARKER_PULSE (R13): the 1 ms samples of MARKER taken since the last MARKER_PULSE, oldest first. -/
  | markerPulse (dt : Nat) (samples : List Bool)
  /-- INHIBIT_SET (R150, R151): `highs` consecutive samples of INHIBIT are high. -/
  | inhibitSet (dt : Nat) (highs : Nat)
  /-- INHIBIT_CLEAR (R150, R152): `lows` consecutive samples of INHIBIT are low. -/
  | inhibitClear (dt : Nat) (lows : Nat)
  /-- CLOCK_WINDOW (R154): a window of the clock supervisor ends with `periods` crystal periods counted. -/
  | clockWindow (dt : Nat) (periods : Nat)
  /-- LINK_SILENT_ONSET (R158). -/
  | linkSilentOnset
  /-- CONTROL_FRAME (R87, R88). -/
  | controlFrame
  /-- POLL_CYCLE_EXPIRY (R113, R114). -/
  | pollCycleExpiry
  /-- SETPOINT_SEND: for how many µs of the turn bytes that no other command reports kept the line busy
  (R115, R116, log 14). -/
  | setpointSend (busy : Nat)
  /-- SETPOINT_SENT (R117). -/
  | setpointSent
  /-- TURN_WAIT_LIMIT (R115). -/
  | turnWaitLimit
  /-- REPLY_WINDOW_CLOSE (R117). -/
  | replyWindowClose
  /-- STATUS_RECEPTION (R117, R118): these bytes come on the actuator link, in a window or out of one, a whole reply
  or a part of one; `dt` is the time to the end of the first. With no byte, the line has been idle for 20 µs. -/
  | statusReception (dt : Nat) (bytes : List RxByte)
  /-- CONTROL_FRAME_RECEIVED (R179): these bytes arrive on the control link without pause. -/
  | controlFrameReceived (dt : Nat) (bytes : List Byte)
  /-- FRAME_GAP_TIMEOUT (R180). -/
  | frameGapTimeout
  /-- UNKNOWN_REQUEST (R183). -/
  | unknownRequest (kind : Byte) (tag : Byte) (payload : List Byte)
  /-- IDENTIFY (R184). -/
  | identify (tag : Byte)
  /-- CONFIGURE_TRAIN (R171). -/
  | configureTrain (tag : Byte) (p : TrainPayload)
  /-- SET_TILT_LAW (R172). -/
  | setTiltLaw (tag : Byte) (p : LawPayload)
  /-- SET_TRAIN_SET (R173). -/
  | setTrainSet (tag : Byte) (p : TrainSetPayload)
  /-- SET_MODE with the code of RUN (R167). -/
  | setModeRun (tag : Byte)
  /-- SET_MODE with the code of CONFIG (R168). -/
  | setModeConfig (tag : Byte)
  /-- SET_POSITION (R15). -/
  | setPosition (tag : Byte) (chainage : BitVec 32)
  /-- POSITION_FIX (R16 to R18). -/
  | positionFix (tag : Byte) (sequence : Byte) (surveyed : BitVec 32)
  /-- ROUTE_APPEND (R25 to R27). -/
  | routeAppend (tag : Byte) (anchor : BitVec 32) (records : List SegmentPayload)
  /-- ROUTE_TRUNCATE (R36, R37). -/
  | routeTruncate (tag : Byte) (x : BitVec 32)
  /-- ROUTE_CLEAR (R39). -/
  | routeClear (tag : Byte)
  /-- ROUTE_CONFIRM (R40). -/
  | routeConfirm (tag : Byte)
  /-- RESUME of one named car (R104). -/
  | resume (tag : Byte) (car : Byte)
  /-- RESUME with index 0xFF (R105). -/
  | resumeAll (tag : Byte)
  /-- READMIT (R126). -/
  | readmit (tag : Byte) (car : Byte)
  /-- QUERY_TRAIN (R176). -/
  | queryTrain (tag : Byte)
  /-- QUERY_CAR (R108). -/
  | queryCar (tag : Byte) (car : Byte)
  /-- QUERY_ROUTE (R47). -/
  | queryRoute (tag : Byte) (index : Byte)
  /-- RESTART (R174). -/
  | restart (tag : Byte)
  /-- REPLY_SENT (R185). -/
  | replySent
  /-- BATCH_SENT (R189). -/
  | batchSent
  /-- QUIET_TIMER_EXPIRY (R187). -/
  | quietTimerExpiry
  /-- ABSOLUTE_TIMER_EXPIRY (R187). -/
  | absoluteTimerExpiry
  /-- CONTROL_LINK_BYTE_RECEIVED (R179, R180). -/
  | controlLinkByteReceived (dt : Nat) (byte : Byte)
deriving DecidableEq, Repr

end Sys2Proof
end

