-- ==== Sys2Proof/WellFormed.lean ====
section
/-! DEFINITION. Which commands can come about as they are written: what the operand types do not already
say. An ill-formed command still has a meaning (the rules applied to what it carries); well-formedness says
that the outside can bring it about under that row's name. -/

namespace Sys2Proof

/-- The KIND values that name a request (Table 11-2). -/
def isRequestKind (kind : Byte) : Bool := 0x01 ≤ kind.toNat && kind.toNat ≤ 0x11

/-- Bytes that make one complete frame: SYNC, a LEN of 120 or less, and LEN + 6 bytes in all (R179). -/
def isCompleteFrame : List Byte → Bool
  | sync :: len :: rest => sync == 0xC3 && len.toNat ≤ 120 && rest.length == len.toNat + 4
  | _ => false

/-- The well-formedness of a command.

* an accepted pulse needs a level of 20 µs (R1);
* a marker or INHIBIT event needs at least one sample (R13, R150);
* a setpoint is sent only with the line idle within 4,000 µs of its turn (R115);
* bytes on the actuator link are one run: none comes after a pause of 20 µs, which ends a reception (R117);
* a received frame is a complete one (R179);
* an unknown request's KIND names no request and its payload fits a frame (R179, R183);
* an append carries 1 to 6 records (R195);
* RESUME with 0xFF is the row RESUME_ALL (R105). -/
def Instr.wf : Instr → Bool
  | .tachoPulse _ _ _ held => 20 ≤ held
  | .markerPulse _ samples => !samples.isEmpty
  | .inhibitSet _ highs => 1 ≤ highs
  | .inhibitClear _ lows => 1 ≤ lows
  | .statusReception _ bytes => bytes.tail.all (fun b => b.pause < 20)
  | .setpointSend busy => busy + 20 ≤ 4000
  | .controlFrameReceived _ bytes => isCompleteFrame bytes
  | .unknownRequest kind _ payload => !isRequestKind kind && payload.length ≤ 120
  | .routeAppend _ _ records => 1 ≤ records.length && records.length ≤ 6
  | .resume _ car => car != 0xFF
  | .hardwareReset _ | .tachoStall _ | .comparisonWindow | .clockWindow _ _ | .linkSilentOnset
  | .controlFrame | .pollCycleExpiry | .setpointSent | .turnWaitLimit | .replyWindowClose
  | .frameGapTimeout | .identify _ | .configureTrain _ _ | .setTiltLaw _ _ | .setTrainSet _ _
  | .setModeRun _ | .setModeConfig _ | .setPosition _ _ | .positionFix _ _ _ | .routeTruncate _ _
  | .routeClear _ | .routeConfirm _ | .resumeAll _ | .readmit _ _ | .queryTrain _ | .queryCar _ _
  | .queryRoute _ _ | .restart _ | .replySent | .batchSent | .quietTimerExpiry
  | .absoluteTimerExpiry | .controlLinkByteReceived _ _ => true

end Sys2Proof
end

