-- ==== Sys2Proof/Decode.lean ====
section
/-! DEFINITION. The bytes of the control link: byte order, the CRC, frames, and requests read from and
written to frames (Chapter 11). The opcode table gives its rows no bits, so `decodeTableWord` reads no
command from any word. -/

namespace Sys2Proof

/-- The table gives no row any bits: no word spells a command. -/
def decodeTableWord (_nbits _w : Nat) : Option Instr := none

/-! ## Byte order and CRC (R194) -/

/-- Two bytes, most significant first (R194). -/
def bytes16 (x : BitVec 16) : List Byte := [x.extractLsb' 8 8, x.extractLsb' 0 8]

/-- Three bytes, most significant first (R194). -/
def bytes24 (x : BitVec 24) : List Byte := [x.extractLsb' 16 8, x.extractLsb' 8 8, x.extractLsb' 0 8]

/-- Four bytes, most significant first (R194). -/
def bytes32 (x : BitVec 32) : List Byte :=
  [x.extractLsb' 24 8, x.extractLsb' 16 8, x.extractLsb' 8 8, x.extractLsb' 0 8]

def join16 (b1 b0 : Byte) : BitVec 16 := b1 ++ b0

def join24 (b2 b1 b0 : Byte) : BitVec 24 := b2 ++ (b1 ++ b0)

def join32 (b3 b2 b1 b0 : Byte) : BitVec 32 := b3 ++ (b2 ++ (b1 ++ b0))

/-- One shift of the CRC register by the polynomial 0x1021 (R194). -/
def crcShift (r : BitVec 16) : BitVec 16 :=
  if r.msb then (r <<< 1) ^^^ 0x1021 else r <<< 1

/-- A byte taken into the high end of the register, then eight shifts (R194). -/
def crcByte (r : BitVec 16) (b : Byte) : BitVec 16 :=
  let r := r ^^^ (b ++ (0 : BitVec 8))
  crcShift (crcShift (crcShift (crcShift (crcShift (crcShift (crcShift (crcShift r)))))))

/-- The CRC-16 of both links: initial value 0xFFFF (R194, R196). -/
def crc16 (bs : List Byte) : BitVec 16 := bs.foldl crcByte 0xFFFF

/-- SYNC (Table 11-1). -/
def syncByte : Byte := 0xC3

/-- The bytes of a control link frame (Table 11-1). -/
def frameBytes (kind tag : Byte) (payload : List Byte) : List Byte :=
  let covered := BitVec.ofNat 8 payload.length :: kind :: tag :: payload
  syncByte :: (covered ++ bytes16 (crc16 covered))

def Frame.bytes (f : Frame) : List Byte := frameBytes f.kind f.tag f.payload

/-! ## Segment records (Table 11-6, R195) -/

/-- The length word: exempt code, cap presence, length (Table 11-6). -/
def SegmentPayload.lengthWord (r : SegmentPayload) : BitVec 24 :=
  r.exempt ++ ((if r.cap.isSome then (1 : BitVec 1) else 0) ++ r.length)

/-- A record as ROUTE_APPEND carries it (Table 11-6). -/
def SegmentPayload.bytes (r : SegmentPayload) : List Byte :=
  bytes16 r.segId ++ bytes24 r.lengthWord ++ bytes16 r.cStart ++ bytes16 r.cEnd ++ bytes16 r.hStart
    ++ bytes16 r.hEnd ++ (match r.cap with | some c => bytes16 c | none => [])

/-- The fields of a record of 13 bytes, given its length word. -/
def segmentOf (segId : BitVec 16) (w : BitVec 24) (c₁ c₂ h₁ h₂ : BitVec 16) (cap : Option (BitVec 16)) :
    SegmentPayload :=
  { segId := segId, length := w.extractLsb' 0 21, exempt := w.extractLsb' 22 2,
    cStart := c₁, cEnd := c₂, hStart := h₁, hEnd := h₂, cap := cap }

/-- One record from the front of the payload: 13 bytes, or 15 when bit 21 of its length word is set; none
when the payload runs out inside it (R195). -/
def parseSegment : List Byte → Option (SegmentPayload × List Byte)
  | i1 :: i0 :: l2 :: l1 :: l0 :: a1 :: a0 :: b1 :: b0 :: c1 :: c0 :: d1 :: d0 :: rest =>
    let w := join24 l2 l1 l0
    let seg := segmentOf (join16 i1 i0) w (join16 a1 a0) (join16 b1 b0) (join16 c1 c0) (join16 d1 d0)
    if w.getLsbD 21 then
      match rest with
      | e1 :: e0 :: rest => some (seg (some (join16 e1 e0)), rest)
      | _ => none
    else some (seg none, rest)
  | _ => none

/-- At most `n` records up to the exact end of the payload (R195). -/
def parseSegments : Nat → List Byte → Option (List SegmentPayload)
  | _, [] => some []
  | 0, _ :: _ => none
  | n + 1, b :: bs =>
    match parseSegment (b :: bs) with
    | none => none
    | some (r, rest) => (parseSegments n rest).map (r :: ·)

/-! ## Requests -/

/-- What a taken frame turns out to be (R183): a request, a known KIND with a payload of the wrong length,
or a SET_MODE whose mode is neither RUN nor CONFIG (R167). -/
inductive Decoded where
  | request (i : Instr)
  | badLength
  | badMode
deriving DecidableEq, Repr

/-- A request that carries no data. -/
def decodeEmpty (i : Instr) : List Byte → Decoded
  | [] => .request i
  | _ => .badLength

/-- A request that carries one byte. -/
def decodeByte (f : Byte → Decoded) : List Byte → Decoded
  | [b] => f b
  | _ => .badLength

/-- A request that carries one chainage. -/
def decodeChainage (f : BitVec 32 → Instr) : List Byte → Decoded
  | [b3, b2, b1, b0] => .request (f (join32 b3 b2 b1 b0))
  | _ => .badLength

/-- The byte at an offset of a payload. -/
def byteAt (payload : List Byte) (offset : Nat) : Byte := payload.getD offset 0

/-- The two bytes at an offset of a payload. -/
def halfAt (payload : List Byte) (offset : Nat) : BitVec 16 :=
  join16 (byteAt payload offset) (byteAt payload (offset + 1))

/-- CONFIGURE_TRAIN's 36 bytes, each field at its offset (Table 11-4). -/
def decodeTrain (tag : Byte) (p : List Byte) : Decoded :=
  if p.length = 36 then
    .request (.configureTrain tag
      { carCount := byteAt p 0
        offsets := #v[halfAt p 1, halfAt p 3, halfAt p 5, halfAt p 7, halfAt p 9, halfAt p 11,
          halfAt p 13, halfAt p 15]
        dppA := halfAt p 17, dppB := halfAt p 19, odoLimit := byteAt p 21, tiltMax := halfAt p 22
        fixWindow := halfAt p 24, silenceTime := halfAt p 26, silenceReaction := byteAt p 28
        driveFaultReaction := byteAt p 29, supervisionReaction := byteAt p 30
        noticeThreshold := byteAt p 31, quietTime := halfAt p 32, absoluteTime := halfAt p 34 })
  else .badLength

/-- SET_TILT_LAW's 12 bytes (Table 11-5). -/
def decodeLaw (tag : Byte) : List Byte → Decoded
  | [k1, k0, d1, d0, l1, l0, t1, t0, o1, o0, a1, a0] =>
    .request (.setTiltLaw tag
      { k := join16 k1 k0, deadBand := join16 d1 d0, leadTime := join16 l1 l0
        tiltDegraded := join16 t1 t0, omegaMax := join16 o1 o0, accel := join16 a1 a0 })
  | _ => .badLength

/-- SET_TRAIN_SET's 13 bytes (Table 11-5). -/
def decodeTrainSet (tag : Byte) : List Byte → Decoded
  | [v1, v0, t1, t0, n, b1, b0, m1, m0, w3, w2, w1, w0] =>
    .request (.setTrainSet tag
      { vMin := join16 v1 v0, supThreshold := join16 t1 t0, supCount := n, blankDist := join16 b1 b0
        matchWindow := join16 m1 m0, lowWater := join32 w3 w2 w1 w0 })
  | _ => .badLength

/-- ROUTE_APPEND's anchor and 1 to 6 records (R195). -/
def decodeAppend (tag : Byte) : List Byte → Decoded
  | b3 :: b2 :: b1 :: b0 :: b :: bs =>
    match parseSegments 6 (b :: bs) with
    | some records => .request (.routeAppend tag (join32 b3 b2 b1 b0) records)
    | none => .badLength
  | _ => .badLength

/-- POSITION_FIX's sequence and surveyed chainage (Table 11-7). -/
def decodeFix (tag : Byte) : List Byte → Decoded
  | [n, b3, b2, b1, b0] => .request (.positionFix tag n (join32 b3 b2 b1 b0))
  | _ => .badLength

/-- SET_MODE's mode code (Table 11-3, R167). -/
def decodeMode (tag mode : Byte) : Decoded :=
  if mode = 0 then .request (.setModeConfig tag)
  else if mode = 1 then .request (.setModeRun tag)
  else .badMode

/-- RESUME's car index, 0xFF standing for every car (R104, R105). -/
def decodeResume (tag car : Byte) : Decoded :=
  if car = 0xFF then .request (.resumeAll tag) else .request (.resume tag car)

/-- A frame taken as a request: the KIND names it (Table 11-2), then its length is judged (R183). -/
def decodeRequest (f : Frame) : Decoded :=
  match f.kind.toNat with
  | 0x01 => decodeEmpty (.identify f.tag) f.payload
  | 0x02 => decodeTrain f.tag f.payload
  | 0x03 => decodeLaw f.tag f.payload
  | 0x04 => decodeTrainSet f.tag f.payload
  | 0x05 => decodeByte (decodeMode f.tag) f.payload
  | 0x06 => decodeChainage (.setPosition f.tag) f.payload
  | 0x07 => decodeFix f.tag f.payload
  | 0x08 => decodeAppend f.tag f.payload
  | 0x09 => decodeChainage (.routeTruncate f.tag) f.payload
  | 0x0A => decodeEmpty (.routeClear f.tag) f.payload
  | 0x0B => decodeEmpty (.routeConfirm f.tag) f.payload
  | 0x0C => decodeByte (decodeResume f.tag) f.payload
  | 0x0D => decodeByte (fun c => .request (.readmit f.tag c)) f.payload
  | 0x0E => decodeEmpty (.queryTrain f.tag) f.payload
  | 0x0F => decodeByte (fun c => .request (.queryCar f.tag c)) f.payload
  | 0x10 => decodeByte (fun n => .request (.queryRoute f.tag n)) f.payload
  | 0x11 => decodeEmpty (.restart f.tag) f.payload
  | _ => .request (.unknownRequest f.kind f.tag f.payload)

/-- CONFIGURE_TRAIN's payload bytes (Table 11-4). -/
def TrainPayload.bytes (p : TrainPayload) : List Byte :=
  [p.carCount] ++ p.offsets.toList.flatMap bytes16 ++ bytes16 p.dppA ++ bytes16 p.dppB ++ [p.odoLimit]
    ++ bytes16 p.tiltMax ++ bytes16 p.fixWindow ++ bytes16 p.silenceTime
    ++ [p.silenceReaction, p.driveFaultReaction, p.supervisionReaction, p.noticeThreshold]
    ++ bytes16 p.quietTime ++ bytes16 p.absoluteTime

/-- SET_TILT_LAW's payload bytes (Table 11-5). -/
def LawPayload.bytes (p : LawPayload) : List Byte :=
  bytes16 p.k ++ bytes16 p.deadBand ++ bytes16 p.leadTime ++ bytes16 p.tiltDegraded ++ bytes16 p.omegaMax
    ++ bytes16 p.accel

/-- SET_TRAIN_SET's payload bytes (Table 11-5). -/
def TrainSetPayload.bytes (p : TrainSetPayload) : List Byte :=
  bytes16 p.vMin ++ bytes16 p.supThreshold ++ [p.supCount] ++ bytes16 p.blankDist ++ bytes16 p.matchWindow
    ++ bytes32 p.lowWater

/-- The frame that carries a request (Tables 11-2, 11-4 to 11-7); none for a command that is no request. -/
def encodeRequest : Instr → Option Frame
  | .unknownRequest kind tag payload => some ⟨kind, tag, payload⟩
  | .identify tag => some ⟨0x01, tag, []⟩
  | .configureTrain tag p => some ⟨0x02, tag, p.bytes⟩
  | .setTiltLaw tag p => some ⟨0x03, tag, p.bytes⟩
  | .setTrainSet tag p => some ⟨0x04, tag, p.bytes⟩
  | .setModeRun tag => some ⟨0x05, tag, [1]⟩
  | .setModeConfig tag => some ⟨0x05, tag, [0]⟩
  | .setPosition tag chainage => some ⟨0x06, tag, bytes32 chainage⟩
  | .positionFix tag sequence surveyed => some ⟨0x07, tag, sequence :: bytes32 surveyed⟩
  | .routeAppend tag anchor records =>
    some ⟨0x08, tag, bytes32 anchor ++ records.flatMap SegmentPayload.bytes⟩
  | .routeTruncate tag x => some ⟨0x09, tag, bytes32 x⟩
  | .routeClear tag => some ⟨0x0A, tag, []⟩
  | .routeConfirm tag => some ⟨0x0B, tag, []⟩
  | .resume tag car => some ⟨0x0C, tag, [car]⟩
  | .resumeAll tag => some ⟨0x0C, tag, [0xFF]⟩
  | .readmit tag car => some ⟨0x0D, tag, [car]⟩
  | .queryTrain tag => some ⟨0x0E, tag, []⟩
  | .queryCar tag car => some ⟨0x0F, tag, [car]⟩
  | .queryRoute tag index => some ⟨0x10, tag, [index]⟩
  | .restart tag => some ⟨0x11, tag, []⟩
  | .hardwareReset _ | .tachoPulse _ _ _ _ | .tachoStall _ | .comparisonWindow | .markerPulse _ _
  | .inhibitSet _ _ | .inhibitClear _ _ | .clockWindow _ _ | .linkSilentOnset | .controlFrame
  | .pollCycleExpiry | .setpointSend _ | .setpointSent | .turnWaitLimit | .replyWindowClose
  | .statusReception _ _ | .controlFrameReceived _ _ | .frameGapTimeout | .replySent | .batchSent
  | .quietTimerExpiry | .absoluteTimerExpiry | .controlLinkByteReceived _ _ => none

end Sys2Proof
end

