-- ==== Sys2Proof/Machine/State.lean ====
section
/-! DEFINITION. The state of the module, block by block (Tables 1-1, 2-1, 5-1, 6-1, 7-1, 8-1, 9-1 and
10-1, and the speed gate of R60), the reasons a step could stop, and the state right after a hardware
reset. Times are in µs of the module's time base (section 1.1, log 1). -/

namespace Sys2Proof.Machine

/-! ## Odometry Unit (Table 1-1) -/

/-- One tachometer channel: the pulse filter (line high, and when that level began), the last pulse time,
the period history with the newest first, and the distance of the window in progress. -/
structure TachoChannel where
  high : Bool
  highSince : Nat
  last : Option Nat
  periods : List Nat
  windowDistance : Nat
deriving DecidableEq, Repr

/-- The last three 1 ms samples of MARKER (R13). -/
structure MarkerFilter where
  oldest : Bool
  middle : Bool
  newest : Bool
deriving DecidableEq, Repr

/-- An entry of the marker capture table (R14). -/
structure Capture where
  sequence : Byte
  position : Nat
deriving DecidableEq, Repr

structure Odometry where
  tachoA : TachoChannel
  tachoB : TachoChannel
  selected : Tacho
  position : Nat
  positionValid : Bool
  remainder : Nat
  windowStart : Nat
  disagreements : Nat
  agreements : Nat
  doubt : Bool
  markerFilter : MarkerFilter
  sequence : Byte
  captures : List Capture
deriving DecidableEq, Repr

/-! ## Route Queue (Tables 2-1, 2-2) -/

/-- A queued segment record (R22). -/
structure Segment where
  segId : BitVec 16
  start : Nat
  length : Nat
  cStart : Int
  cEnd : Int
  hStart : Int
  hEnd : Int
  exempt : Bool
  cap : Option Nat
deriving DecidableEq, Repr

structure RouteQueue where
  ring : List Segment
  anchored : Bool
  headStart : Nat
  endChainage : Nat
  commit : Option Nat
  doubt : Bool
  lastLead : Option Nat
  lowLatch : Bool
  exhaustedLatch : Bool
deriving DecidableEq, Repr

/-! ## Channel Controller (Table 5-1) -/

inductive CarState where
  | offline | centred | tracking | returning | latched | isolated | probing
deriving DecidableEq, Repr

/-- Target reasons (Table 3-8). -/
inductive Reason where
  | law | capped | noRoute | speed | forcedZero
deriving DecidableEq, Repr

/-- The causes that can hold a car LATCHED (Table 5-1). -/
inductive LatchReason where
  | driveFault | supervision
deriving DecidableEq, Repr

/-- A tilt law (Table 9-3). -/
structure TiltLaw where
  k : Nat
  deadBand : Nat
  leadTime : Nat
  tiltDegraded : Nat
  omegaMax : Nat
  accel : Nat
deriving DecidableEq, Repr

/-- A channel record (Table 5-1). -/
structure CarChannel where
  state : CarState
  theta : Int
  omega : Int
  target : Int
  reason : Reason
  limit : Nat
  law : TiltLaw
  generation : BitVec 16
  driveFault : Bool
  supervision : Bool
  healthReduce : Bool
  latchReason : Option LatchReason
  lastPosition : Option Nat
  lastLookAhead : Option Nat
deriving DecidableEq, Repr

/-! ## Actuator Link Master (Table 6-1) -/

/-- What a good reply yields and the master keeps (R118, R125). -/
structure DriveReport where
  tilt : Int
  lateral : Int
  faultCode : Nat
deriving DecidableEq, Repr

/-- What the master holds for each car. -/
structure Drive where
  sequence : Byte
  health : Nat
  warned : Bool
  probing : Nat
  lastGood : Option DriveReport
deriving DecidableEq, Repr

/-- The contents of a SETPOINT frame (Table 6-2); `track` is TRACK, its absence LOCK. -/
structure SetpointFrame where
  car : CarId
  track : Bool
  setpoint : BitVec 16
  rate : BitVec 16
  sequence : Byte
deriving DecidableEq, Repr

/-- Where the open transaction stands: its turn came and the line is not yet idle; its setpoint is being
sent; its reply window is open, for a reply that echoes the sequence; or its reception is in progress, begun in the
window that opened then, and holds these bytes (R115 to R117). -/
inductive Phase where
  | waiting (turnAt : Nat)
  | sending (sentAt : Nat) (frame : SetpointFrame)
  | window (openedAt : Nat) (sequence : Byte)
  | receiving (openedAt : Nat) (sequence : Byte) (held : List RxByte)
deriving DecidableEq, Repr

/-- A cycle in progress: its list, the car whose transaction is open, the cars whose turn is to come. -/
structure PollCycle where
  cars : List CarId
  current : CarId
  toCome : List CarId
  phase : Phase
deriving DecidableEq, Repr

/-- `lineIdleFrom` is when the last byte received on the link ended: the idle tests of R115 and R117 run from it
(R155). -/
structure ActuatorLink where
  pollStart : Nat
  lineIdleFrom : Nat
  cycle : Option PollCycle
  cyclePending : Bool
  overruns : Nat
  drives : Vector Drive 8
deriving DecidableEq, Repr

/-! ## Lateral Supervisor (Table 7-1) -/

/-- A record of the mismatch table (R137). -/
structure Mismatch where
  chainage : Nat
  car : CarId
deriving DecidableEq, Repr

structure Supervisor where
  persistence : Vector Nat 8
  suspended : Vector Bool 8
  mismatches : List Mismatch
deriving DecidableEq, Repr

/-! ## Condition Monitor (Table 8-1) -/

inductive ClockSource where
  | crystal | internal
deriving DecidableEq, Repr

structure Monitor where
  inhibitLevel : Bool
  inhibitRun : Nat
  inhibit : Bool
  clock : ClockSource
  clockFallback : Bool
  silenceFrom : Nat
  linkSilent : Bool
deriving DecidableEq, Repr

/-! ## Mode and Parameter Unit (Tables 9-1 to 9-4) -/

inductive Mode where
  | config | run | draining
deriving DecidableEq, Repr

inductive ResetCause where
  | powerOn | resetLine | restart
deriving DecidableEq, Repr

inductive SilenceReaction where
  | none | centre
deriving DecidableEq, Repr

inductive Reaction where
  | centreAndContinue | centreAndLatch
deriving DecidableEq, Repr

/-- The static settings (Table 9-2). -/
structure Settings where
  carCount : Nat
  offsets : Vector Nat 8
  dppA : Nat
  dppB : Nat
  odoLimit : Nat
  tiltMax : Nat
  fixWindow : Nat
  silenceTime : Nat
  silenceReaction : SilenceReaction
  driveFaultReaction : Reaction
  supervisionReaction : Reaction
  noticeThreshold : Nat
  quietTime : Nat
  absoluteTime : Nat
deriving DecidableEq, Repr

/-- The train set (Table 9-4). -/
structure TrainSet where
  vMin : Nat
  supThreshold : Nat
  supCount : Nat
  blankDist : Nat
  matchWindow : Nat
  lowWater : Nat
deriving DecidableEq, Repr

structure ModeUnit where
  mode : Mode
  settings : Settings
  stagedLaw : TiltLaw
  stagedGeneration : BitVec 16
  trainSet : TrainSet
  resetCause : ResetCause
deriving DecidableEq, Repr

/-! ## Control Link Interface (Table 10-1) -/

/-- Reply statuses (Table 10-2). -/
inductive Status where
  | ok | unknownRequest | badLength | outOfRange | wrongMode | wrongState | queueFull | notContiguous
  | notBoundary | committed | routeFrozen | noCapture | badCar | notLatched | notIsolated | causeActive
  | noTrain | noPosition
deriving DecidableEq, Repr

/-- A formed reply: its KIND and TAG, its status byte and the data after it (R183). -/
structure Reply where
  kind : Byte
  tag : Byte
  status : Status
  data : List Byte
deriving DecidableEq, Repr

/-- Notice kinds (Table 10-4). -/
inductive NoticeKind where
  | started | mode | carState | paramApplied | routeLow | routeExhausted | routeDoubt | mismatch
  | healthWarning | isolated | driveFault | odometryDoubt | marker | positionCorrected | clockFallback
  | inhibit | linkSilentEnd | linkOverrun
deriving DecidableEq, Repr

/-- A notice record (section 10.4): `car` is absent for 0xFF; values A and B are 16-bit fields. -/
structure Notice where
  kind : NoticeKind
  car : Option CarId
  position : Nat
  valueA : BitVec 16
  valueB : BitVec 16
deriving DecidableEq, Repr

/-- A formed batch (R188). -/
structure Batch where
  sequence : Byte
  lost : Nat
  notices : List Notice
deriving DecidableEq, Repr

/-- The transmitter, with the time at which the frame on the line began (R185). -/
inductive Transmitter where
  | idle
  | sendingReply (since : Nat)
  | sendingBatch (since : Nat)
deriving DecidableEq, Repr

/-- The interface's state. The receiver hunts while `rxBuffer` is empty; while it gathers, the buffer holds
the bytes from SYNC on. A running timer is the time of its expiry. -/
structure ControlLink where
  rxBuffer : List Byte
  rxLast : Nat
  fifo : List Frame
  replies : List Reply
  transmitter : Transmitter
  hold : Bool
  notices : List Notice
  lost : Nat
  quiet : Option Nat
  absolute : Option Nat
  expiryMark : Bool
  slot : Option Batch
  batchSequence : Byte
  crcErrors : Nat
  dropped : Nat
deriving DecidableEq, Repr

/-! ## The whole module -/

/-- The state of the module: the time base, the ten blocks, and the queue of the commands that wait. -/
structure State where
  now : Nat
  odo : Odometry
  route : RouteQueue
  gateOpen : Bool
  frameStart : Nat
  cars : Vector CarChannel 8
  link : ActuatorLink
  sup : Supervisor
  mon : Monitor
  unit : ModeUnit
  ctl : ControlLink
  pending : List Instr
deriving DecidableEq, Repr

/-- Reasons a step stops with a fault: none. No rule of the document stops the module; every refused or
damaged input is answered, counted or ignored by rule, and that is a next state (log 24, safe). -/
inductive Fault where
deriving DecidableEq, Repr

/-- Reasons a step is refused. -/
inductive Refusal where
  /-- Raised by an arm of `exec` whose command has no meaning yet; no arm is left that raises it. Safe: the
  model stops where the module would go on. -/
  | notModelled (mnemonic : String)
deriving DecidableEq, Repr

/-! ## The state after a hardware reset -/

/-- The default tilt law (Table 9-3). -/
def defaultLaw : TiltLaw :=
  { k := 600, deadBand := 300, leadTime := 1200, tiltDegraded := 300, omegaMax := 400, accel := 1000 }

/-- The default train set (Table 9-4). -/
def defaultTrainSet : TrainSet :=
  { vMin := 19444, supThreshold := 1500, supCount := 5, blankDist := 3000, matchWindow := 2000,
    lowWater := 200000 }

/-- The default static settings (Table 9-2). -/
def defaultSettings : Settings :=
  { carCount := 0, offsets := Vector.replicate 8 0, dppA := 28274, dppB := 28274, odoLimit := 5,
    tiltMax := 800, fixWindow := 500, silenceTime := 500, silenceReaction := .none,
    driveFaultReaction := .centreAndLatch, supervisionReaction := .centreAndContinue,
    noticeThreshold := 4, quietTime := 50, absoluteTime := 200 }

/-- A tachometer channel after a hardware reset (R20): the filter waits for its line to be low. -/
def TachoChannel.reset : TachoChannel :=
  { high := true, highSince := 0, last := none, periods := [], windowDistance := 0 }

/-- R20. -/
def Odometry.reset : Odometry :=
  { tachoA := .reset, tachoB := .reset, selected := .a, position := 0, positionValid := false,
    remainder := 0, windowStart := 0, disagreements := 0, agreements := 0, doubt := false,
    markerFilter := ⟨true, true, true⟩, sequence := 0, captures := [] }

/-- R48; a RESTART leaves the queue the same (R49). -/
def RouteQueue.reset : RouteQueue :=
  { ring := [], anchored := false, headStart := 0, endChainage := 0, commit := none, doubt := false,
    lastLead := none, lowLatch := false, exhaustedLatch := false }

/-- R111. -/
def CarChannel.reset : CarChannel :=
  { state := .offline, theta := 0, omega := 0, target := 0, reason := .forcedZero, limit := 800,
    law := defaultLaw, generation := 0, driveFault := false, supervision := false,
    healthReduce := false, latchReason := none, lastPosition := none, lastLookAhead := none }

/-- R129, for each car. -/
def Drive.reset : Drive :=
  { sequence := 0, health := 0, warned := false, probing := 0, lastGood := none }

/-- R129. -/
def ActuatorLink.reset : ActuatorLink :=
  { pollStart := 0, lineIdleFrom := 0, cycle := none, cyclePending := false, overruns := 0,
    drives := Vector.replicate 8 .reset }

/-- R148; a RESTART leaves the Supervisor the same (R149). -/
def Supervisor.reset : Supervisor :=
  { persistence := Vector.replicate 8 0, suspended := Vector.replicate 8 false, mismatches := [] }

/-- R164. -/
def Monitor.reset : Monitor :=
  { inhibitLevel := false, inhibitRun := 0, inhibit := false, clock := .crystal,
    clockFallback := false, silenceFrom := 0, linkSilent := false }

/-- R177, with the reset cause of R175. -/
def ModeUnit.reset (cause : ResetCause) : ModeUnit :=
  { mode := .config, settings := defaultSettings, stagedLaw := defaultLaw, stagedGeneration := 0,
    trainSet := defaultTrainSet, resetCause := cause }

/-- R192, before the STARTED notice is posted. -/
def ControlLink.reset : ControlLink :=
  { rxBuffer := [], rxLast := 0, fifo := [], replies := [], transmitter := .idle, hold := false,
    notices := [], lost := 0, quiet := none, absolute := none, expiryMark := false, slot := none,
    batchSequence := 0, crcErrors := 0, dropped := 0 }

/-- Every block in its hardware-reset state, before the STARTED notice of R191. -/
def State.blank (cause : ResetCause) : State :=
  { now := 0, odo := .reset, route := .reset, gateOpen := false, frameStart := 0,
    cars := Vector.replicate 8 .reset, link := .reset, sup := .reset, mon := .reset,
    unit := .reset cause, ctl := .reset, pending := [] }

/-- The first batch after a power-on: sequence 0, lost count 0, the STARTED notice alone (R191). -/
def startedBatch : Batch :=
  { sequence := 0, lost := 0,
    notices := [{ kind := .started, car := none, position := 0, valueA := 0, valueB := 0 }] }

/-- The machine right after a power-on reset (log 16): every block in its hardware-reset state, and the
STARTED notice posted, which forms batch 0 at once, the first frame the module sends (R191). -/
def State.reset : State :=
  { State.blank .powerOn with
    ctl := { ControlLink.reset with
      slot := some startedBatch, batchSequence := 1, transmitter := .sendingBatch 0 } }

end Sys2Proof.Machine
end

