-- ==== Sys2Proof/Machine/Operands.lean ====
section
/-! DEFINITION. What the operands of a command mean: constants and arithmetic (00_scope.md section 4), the
codes of Table 11-3, the parameter sets as judged and taken (R170), and the bytes the module sends. -/

namespace Sys2Proof.Machine

/-! ## Constants and arithmetic -/

/-- The greatest chainage (section 4.1). -/
def maxChainage : Nat := 4294967295

/-- The control frame period (R87), in µs. -/
def framePeriod : Nat := 20000

/-- The poll cycle period (R113), in µs. -/
def pollPeriod : Nat := 20000

/-- The comparison window (R9), in µs. -/
def windowPeriod : Nat := 250000

/-- The time a high level holds before its pulse is accepted (R1), in µs. -/
def pulseFilterTime : Nat := 20

/-- The time without a pulse after which a channel stalls, once a further µs begins (R4). -/
def stallTime : Nat := 2000000

/-- The idle time of the actuator link before a setpoint (R115), in µs. -/
def lineIdleTime : Nat := 20

/-- The longest wait of a turn for an idle line (R115), in µs. -/
def turnWaitLimit : Nat := 4000

/-- The length of a SETPOINT frame on the line (R196), in µs. -/
def setpointTime : Nat := 90

/-- The reply window (R117), in µs. -/
def replyWindow : Nat := 1000

/-- A byte on the actuator link (R196), in µs. -/
def actuatorByteTime : Nat := 10

/-- The bytes of a STATUS frame (R196). -/
def statusLength : Nat := 10

/-- The inter-byte gap of the control link (R180), in µs. -/
def gapTime : Nat := 2000

/-- A number held within a range (section 4.5, saturating). -/
def hold (lo hi z : Int) : Int := max lo (min hi z)

/-- An unsigned number in a 16-bit field. -/
def u16 (n : Nat) : BitVec 16 := BitVec.ofNat 16 n

/-- A signed number in a 16-bit field, in two's complement (R194). -/
def s16 (z : Int) : BitVec 16 := BitVec.ofInt 16 z

/-- A signed number held within the 16-bit range, as notice values are (R19, R46, R147). -/
def held16 (z : Int) : BitVec 16 := s16 (hold (-32768) 32767 z)

/-- An unsigned number in a 32-bit field. -/
def u32 (n : Nat) : BitVec 32 := BitVec.ofNat 32 n

/-- A count that saturates at 65,535 and is increased by 1. -/
def bump (n : Nat) : Nat := min 65535 (n + 1)

/-- A position with a signed shift, held within the chainage range (R17). -/
def shiftChainage (p : Nat) (shift : Int) : Nat := (hold 0 maxChainage (p + shift)).toNat

/-- The sign of a number: −1, 0 or +1 (R71). -/
def sign (z : Int) : Int := if 0 < z then 1 else if z < 0 then -1 else 0

/-- θ in whole cdeg: θ / 100 rounded to the nearest, halves away from zero (R77). -/
def roundCdeg (theta : Int) : Int := (theta + 50 * sign theta).tdiv 100

/-- The time of `n` bytes on the control link, 10 bits each at 460,800 bit/s, in µs rounded up
(chapter 10, log 9). -/
def controlBytesTime (n : Nat) : Nat := (n * 3125 + 143) / 144

/-! ## Codes (Table 11-3) -/

def Mode.code : Mode → Nat
  | .config => 0 | .run => 1 | .draining => 2

def CarState.code : CarState → Nat
  | .offline => 0 | .centred => 1 | .tracking => 2 | .returning => 3 | .latched => 4 | .isolated => 5
  | .probing => 6

def Reason.code : Reason → Nat
  | .law => 0 | .capped => 1 | .noRoute => 2 | .speed => 3 | .forcedZero => 4

def ResetCause.code : ResetCause → Nat
  | .powerOn => 0 | .resetLine => 1 | .restart => 2

def SilenceReaction.code : SilenceReaction → Nat
  | .none => 0 | .centre => 1

def tachoCode : Tacho → Nat
  | .a => 0 | .b => 1

/-- The code of a latch reason, 0 when absent. -/
def latchCode : Option LatchReason → Nat
  | none => 0 | some .driveFault => 1 | some .supervision => 2

def Status.code : Status → Nat
  | .ok => 0 | .unknownRequest => 1 | .badLength => 2 | .outOfRange => 3 | .wrongMode => 4
  | .wrongState => 5 | .queueFull => 6 | .notContiguous => 7 | .notBoundary => 8 | .committed => 9
  | .routeFrozen => 10 | .noCapture => 11 | .badCar => 12 | .notLatched => 13 | .notIsolated => 14
  | .causeActive => 15 | .noTrain => 16 | .noPosition => 17

def NoticeKind.code : NoticeKind → Nat
  | .started => 0 | .mode => 1 | .carState => 2 | .paramApplied => 3 | .routeLow => 4
  | .routeExhausted => 5 | .routeDoubt => 6 | .mismatch => 7 | .healthWarning => 8 | .isolated => 9
  | .driveFault => 10 | .odometryDoubt => 11 | .marker => 12 | .positionCorrected => 13
  | .clockFallback => 14 | .inhibit => 15 | .linkSilentEnd => 16 | .linkOverrun => 17

/-- The urgent kinds (Table 10-4). -/
def NoticeKind.urgent : NoticeKind → Bool
  | .started | .mode | .routeDoubt | .isolated | .clockFallback | .inhibit => true
  | .carState | .paramApplied | .routeLow | .routeExhausted | .mismatch | .healthWarning | .driveFault
  | .odometryDoubt | .marker | .positionCorrected | .linkSilentEnd | .linkOverrun => false

/-- The causes a CAR_STATE notice names (Table 5-6). -/
inductive CarCause where
  | inhibit | routeDoubt | linkSilent | positionJump | drain | driveFault | supervision | arrived
  | resumed | resumeRequest | isolation | readmit | probePassed | probeFailed | configure
deriving DecidableEq, Repr

def CarCause.code : CarCause → Nat
  | .inhibit => 0 | .routeDoubt => 1 | .linkSilent => 2 | .positionJump => 3 | .drain => 4
  | .driveFault => 5 | .supervision => 6 | .arrived => 7 | .resumed => 8 | .resumeRequest => 9
  | .isolation => 10 | .readmit => 11 | .probePassed => 12 | .probeFailed => 13 | .configure => 14

/-- The CAR_STATE cause of a car-level cause. -/
def LatchReason.carCause : LatchReason → CarCause
  | .driveFault => .driveFault
  | .supervision => .supervision

/-! ## Frames the module sends -/

/-- A notice record of a batch (Table 11-8). -/
def Notice.bytes (n : Notice) : List Byte :=
  [BitVec.ofNat 8 n.kind.code, match n.car with | some i => BitVec.ofNat 8 i.val | none => 0xFF]
    ++ bytes32 (u32 n.position) ++ bytes16 n.valueA ++ bytes16 n.valueB

/-- A batch frame: KIND 0x40, TAG the batch sequence, the lost count and the records (section 11.6). -/
def Batch.bytes (b : Batch) : List Byte :=
  frameBytes 0x40 b.sequence (bytes16 (u16 b.lost) ++ b.notices.flatMap Notice.bytes)

/-- The payload of a reply: the status byte and the data (R183). -/
def Reply.payload (r : Reply) : List Byte := BitVec.ofNat 8 r.status.code :: r.data

/-- A reply frame (Table 11-1). -/
def Reply.bytes (r : Reply) : List Byte := frameBytes r.kind r.tag r.payload

/-- A SETPOINT frame on the actuator link (Table 11-9, R196). -/
def SetpointFrame.bytes (f : SetpointFrame) : List Byte :=
  let body := [BitVec.ofNat 8 f.car.val, if f.track then (0x01 : Byte) else 0x02]
    ++ bytes16 f.setpoint ++ bytes16 f.rate ++ [f.sequence]
  body ++ bytes16 (crc16 body)

/-! ## Parameter sets as judged and taken (R170) -/

/-- The index of the first field found bad (R170). -/
def firstBad : List (Nat × Bool) → Option Nat
  | [] => none
  | (index, good) :: rest => if good then firstBad rest else some index

/-- A value within a range, both ends included. -/
def within (lo hi n : Nat) : Bool := lo ≤ n && n ≤ hi

/-- A chosen offset: 0 for car 0, for a later car of the train greater than the one before and at most
50,000; an offset beyond CAR_COUNT is not examined (Table 9-2). -/
def offsetGood (p : TrainPayload) (i : Nat) : Bool :=
  let o (j : Nat) : Nat := (p.offsets.toList.getD j 0).toNat
  if i = 0 then o 0 == 0
  else if i < p.carCount.toNat then o (i - 1) < o i && o i ≤ 50000
  else true

/-- The fields of CONFIGURE_TRAIN in index order, each good or bad (Table 9-2). -/
def trainChecks (p : TrainPayload) : List (Nat × Bool) :=
  [(0, within 1 8 p.carCount.toNat), (1, offsetGood p 0), (2, offsetGood p 1), (3, offsetGood p 2),
   (4, offsetGood p 3), (5, offsetGood p 4), (6, offsetGood p 5), (7, offsetGood p 6), (8, offsetGood p 7),
   (9, within 1000 50000 p.dppA.toNat), (10, within 1000 50000 p.dppB.toNat),
   (11, within 2 20 p.odoLimit.toNat), (12, within 100 1000 p.tiltMax.toNat),
   (13, within 0 5000 p.fixWindow.toNat), (14, within 100 5000 p.silenceTime.toNat),
   (15, within 0 1 p.silenceReaction.toNat), (16, within 0 1 p.driveFaultReaction.toNat),
   (17, within 0 1 p.supervisionReaction.toNat), (18, within 1 8 p.noticeThreshold.toNat),
   (19, within 10 1000 p.quietTime.toNat), (20, within 20 5000 p.absoluteTime.toNat)]

/-- A reaction code (Table 11-3). -/
def reactionOf (code : Byte) : Reaction := if code = 0 then .centreAndContinue else .centreAndLatch

/-- The static settings that a good payload carries, offsets at CAR_COUNT and above stored as 0 (R171). -/
def trainSettings (p : TrainPayload) : Settings :=
  { carCount := p.carCount.toNat
    offsets := p.offsets.mapFinIdx (fun i o _ => if i < p.carCount.toNat then o.toNat else 0)
    dppA := p.dppA.toNat, dppB := p.dppB.toNat, odoLimit := p.odoLimit.toNat
    tiltMax := p.tiltMax.toNat, fixWindow := p.fixWindow.toNat, silenceTime := p.silenceTime.toNat
    silenceReaction := if p.silenceReaction = 0 then .none else .centre
    driveFaultReaction := reactionOf p.driveFaultReaction
    supervisionReaction := reactionOf p.supervisionReaction
    noticeThreshold := p.noticeThreshold.toNat, quietTime := p.quietTime.toNat
    absoluteTime := p.absoluteTime.toNat }

/-- The fields of SET_TILT_LAW, ACCEL being a multiple of 50 (Table 9-3, R172). -/
def lawChecks (p : LawPayload) : List (Nat × Bool) :=
  [(0, within 0 1000 p.k.toNat), (1, within 0 2000 p.deadBand.toNat), (2, within 0 3000 p.leadTime.toNat),
   (3, within 0 1000 p.tiltDegraded.toNat), (4, within 50 800 p.omegaMax.toNat),
   (5, within 50 4000 p.accel.toNat && p.accel.toNat % 50 == 0)]

/-- The law a good payload carries. -/
def lawOf (p : LawPayload) : TiltLaw :=
  { k := p.k.toNat, deadBand := p.deadBand.toNat, leadTime := p.leadTime.toNat
    tiltDegraded := p.tiltDegraded.toNat, omegaMax := p.omegaMax.toNat, accel := p.accel.toNat }

/-- The fields of SET_TRAIN_SET (Table 9-4). -/
def trainSetChecks (p : TrainSetPayload) : List (Nat × Bool) :=
  [(0, within 0 50000 p.vMin.toNat), (1, within 500 4000 p.supThreshold.toNat),
   (2, within 2 16 p.supCount.toNat), (3, within 0 10000 p.blankDist.toNat),
   (4, within 500 10000 p.matchWindow.toNat), (5, within 10000 1000000 p.lowWater.toNat)]

/-- The train set a good payload carries. -/
def trainSetOf (p : TrainSetPayload) : TrainSet :=
  { vMin := p.vMin.toNat, supThreshold := p.supThreshold.toNat, supCount := p.supCount.toNat
    blankDist := p.blankDist.toNat, matchWindow := p.matchWindow.toNat, lowWater := p.lowWater.toNat }

end Sys2Proof.Machine
end

