-- ==== Sys2Proof/Machine/Flags.lean ====
section
/-! DEFINITION. Conditions and flags read from the state: the views of a car's place in the train, the
causes that reduce or centre it, the mode tests, and the flag bytes of the query replies. -/

namespace Sys2Proof.Machine

/-- The configured cars, in car-index order (R86). -/
def State.configured (s : State) : List CarId :=
  allCars.filter (fun i => i.val < s.unit.settings.carCount)

/-- A car index in a request, when it names a configured car (R104, R108, R126). -/
def State.namedCar (s : State) (index : Byte) : Option CarId :=
  s.configured.find? (fun i => i.val == index.toNat)

/-- A quiet point: θ = 0 and ω = 0 (section 5.2). -/
def CarChannel.quiet (c : CarChannel) : Bool := c.theta == 0 && c.omega == 0

/-- The cars the frame computes (R50, R88 step 2). -/
def CarState.computed : CarState → Bool
  | .centred | .tracking | .returning | .latched => true
  | .offline | .isolated | .probing => false

/-- The states that count as done for the drain (R100). -/
def CarState.drained : CarState → Bool
  | .centred | .latched | .isolated | .probing => true
  | .offline | .tracking | .returning => false

/-- The cars a poll cycle addresses (R113): configured and not ISOLATED. -/
def CarState.polled : CarState → Bool
  | .centred | .tracking | .returning | .latched | .probing => true
  | .offline | .isolated => false

/-- A REDUCE cause applies to the car (R62). -/
def State.reduced (s : State) (i : CarId) : Bool :=
  s.mon.clockFallback || s.odo.doubt || s.cars[i].healthReduce

/-- LINK_SILENT acts as a centring cause (R158). -/
def State.silenceCentres (s : State) : Bool :=
  s.mon.linkSilent && s.unit.settings.silenceReaction == .centre

/-- A persistent train-level centring cause is active (Table 5-4). -/
def State.centringActive (s : State) : Bool :=
  s.mon.inhibit || s.route.doubt || s.silenceCentres

/-- The silence timer's reading in ms, held at 65,535 (R157). -/
def State.silenceTimer (s : State) : Nat := min 65535 ((s.now - s.mon.silenceFrom) / 1000)

/-- A latch reason's cause is still active (R104). -/
def CarChannel.latchActive (c : CarChannel) : Bool :=
  c.latchReason == some .driveFault && c.driveFault

/-- The weight of a flag bit. -/
def bit (n : Nat) (b : Bool) : Nat := if b then 2 ^ n else 0

/-- The cause set byte (Table 11-3). -/
def CarChannel.causeByte (c : CarChannel) : Byte :=
  BitVec.ofNat 8 (bit 0 c.driveFault + bit 1 c.supervision + bit 2 c.healthReduce)

/-- The flags byte of QUERY_TRAIN (Table 11-7). -/
def State.trainFlags (s : State) : Byte :=
  BitVec.ofNat 8 (bit 0 s.odo.positionValid + bit 1 s.gateOpen + bit 2 (s.odo.selected == .b)
    + bit 3 s.route.commit.isNone + bit 4 s.mon.inhibit + bit 5 s.mon.clockFallback
    + bit 6 s.odo.doubt + bit 7 s.route.doubt)

/-- The flags byte of QUERY_ROUTE (Table 11-7). That bits 7 to 3, which have no meaning there, are sent as 0 is the
model's choice (log 39). -/
def State.routeFlags (s : State) : Byte :=
  BitVec.ofNat 8 (bit 0 s.route.anchored + bit 1 s.route.doubt + bit 2 s.route.commit.isNone)

/-- The marks byte of QUERY_CAR (Table 11-7). That bits 7 to 3, which have no meaning there, are sent as 0 is the
model's choice (log 39). -/
def carMarks (c : CarChannel) (d : Drive) : Byte :=
  BitVec.ofNat 8 (bit 0 c.lastPosition.isNone + bit 1 c.lastLookAhead.isNone + bit 2 d.lastGood.isNone)

end Sys2Proof.Machine
end

