-- ==== Sys2Proof/Machine/Ops.lean ====
section
/-! DEFINITION. The operations the commands share: the time base, the notice queue with its timers and
batches, the transmitter, changes of mode and of a car's state, and the reactions to causes. -/

namespace Sys2Proof.Machine

/-! ## The time base -/

/-- `dt` µs pass (log 1). -/
def State.after (s : State) (dt : Nat) : State := { s with now := s.now + dt }

/-- The time base runs on to `t`; it never runs back (log 1). -/
def State.runTo (s : State) (t : Nat) : State := { s with now := max s.now t }

/-! ## Records held for each car -/

def State.setCar (s : State) (i : CarId) (c : CarChannel) : State :=
  { s with cars := s.cars.set i c }

def State.setDrive (s : State) (i : CarId) (d : Drive) : State :=
  { s with link := { s.link with drives := s.link.drives.set i d } }

def State.setPersistence (s : State) (i : CarId) (n : Nat) : State :=
  { s with sup := { s.sup with persistence := s.sup.persistence.set i n } }

/-- Suspension and the SUPERVISION member are made present and absent together (chapter 7, R90). -/
def State.setSuspended (s : State) (i : CarId) (b : Bool) : State :=
  { s with
    cars := s.cars.set i { s.cars[i] with supervision := b }
    sup := { s.sup with suspended := s.sup.suspended.set i b } }

/-- The health counter with the HEALTH_REDUCE member that follows it (R122). -/
def State.setHealth (s : State) (i : CarId) (health : Nat) (warned : Bool) : State :=
  { s with
    cars := s.cars.set i { s.cars[i] with healthReduce := 80 ≤ health }
    link := { s.link with
      drives := s.link.drives.set i { s.link.drives[i] with health := health, warned := warned } } }

/-! ## The transmitter (R185) -/

/-- An idle transmitter takes the oldest reply, else the batch in the slot, else nothing (R185, log 10). -/
def State.chooseFrame (s : State) : State :=
  match s.ctl.transmitter with
  | .idle =>
    if !s.ctl.replies.isEmpty then { s with ctl := { s.ctl with transmitter := .sendingReply s.now } }
    else if s.ctl.slot.isSome then { s with ctl := { s.ctl with transmitter := .sendingBatch s.now } }
    else s
  | .sendingReply _ | .sendingBatch _ => s

/-- A reply placed at the tail of the reply queue (R182, R185). -/
def State.pushReply (s : State) (r : Reply) : State :=
  ({ s with ctl := { s.ctl with replies := s.ctl.replies ++ [r] } }).chooseFrame

/-! ## Notices and batches (R186 to R188) -/

/-- The expiry of a timer of `ms` ms that starts now (R187). -/
def State.expiryIn (s : State) (ms : Nat) : Nat := s.now + ms * 1000

/-- A batch is due (R188). -/
def State.batchDue (s : State) : Bool :=
  !s.ctl.notices.isEmpty &&
    (s.unit.settings.noticeThreshold ≤ s.ctl.notices.length || s.ctl.expiryMark
      || s.ctl.notices.any (fun n => n.kind.urgent))

/-- The oldest notices, up to 8, and the lost count leave in a batch; the timers stop, or start afresh for
the notices that remain (R187, R188). -/
def State.formBatch (s : State) : State :=
  let rest := s.ctl.notices.drop 8
  { s with ctl := { s.ctl with
      notices := rest
      lost := 0
      expiryMark := false
      quiet := if rest.isEmpty then none else some (s.expiryIn s.unit.settings.quietTime)
      absolute := if rest.isEmpty then none else some (s.expiryIn s.unit.settings.absoluteTime)
      slot := some { sequence := s.ctl.batchSequence, lost := s.ctl.lost, notices := s.ctl.notices.take 8 }
      batchSequence := s.ctl.batchSequence + 1 } }

/-- The formation test: a due batch is formed when the slot is empty, and an idle transmitter then
chooses (R185, R188). -/
def State.formationTest (s : State) : State :=
  if s.batchDue && s.ctl.slot.isNone then s.formBatch.chooseFrame else s

/-- A notice joins the tail of the queue: both timers start from an empty queue, else the quiet timer
restarts (R186, R187). -/
def State.joinNotice (s : State) (n : Notice) : State :=
  { s with ctl := { s.ctl with
      notices := s.ctl.notices ++ [n]
      quiet := some (s.expiryIn s.unit.settings.quietTime)
      absolute := if s.ctl.notices.isEmpty then some (s.expiryIn s.unit.settings.absoluteTime)
        else s.ctl.absolute } }

/-- A notice posted: it joins and the formation test is made, or, with 32 queued, it is counted as lost
(R186). -/
def State.postNotice (s : State) (n : Notice) : State :=
  if s.ctl.notices.length < 32 then (s.joinNotice n).formationTest
  else { s with ctl := { s.ctl with lost := bump s.ctl.lost } }

/-- A notice with the train position as held at the posting. -/
def State.post (s : State) (kind : NoticeKind) (car : Option CarId) (a b : BitVec 16) : State :=
  s.postNotice { kind := kind, car := car, position := s.odo.position, valueA := a, valueB := b }

/-! ## Mode and car states -/

/-- A change of mode, with its urgent MODE notice: the new mode and the one before it (R166). -/
def State.changeMode (s : State) (m : Mode) : State :=
  let old := s.unit.mode
  ({ s with unit := { s.unit with mode := m } }).post .mode none (u16 m.code) (u16 old.code)

/-- Every configured car is CENTRED, LATCHED, ISOLATED or PROBING (R100). -/
def State.drainComplete (s : State) : Bool := s.configured.all (fun i => s.cars[i].state.drained)

/-- The completion test of R100: a complete drain makes the mode CONFIG (R169). -/
def State.settle (s : State) : State :=
  if s.unit.mode == .draining && s.drainComplete then s.changeMode .config else s

/-- A car changes state: its target becomes 0 with reason FORCED_ZERO (Table 5-1), and its CAR_STATE notice
is posted (R109). -/
def State.enter (s : State) (i : CarId) (st : CarState) (cause : CarCause) : State :=
  (s.setCar i { s.cars[i] with state := st, target := 0, reason := .forcedZero }).post
    .carState (some i) (u16 st.code) (u16 cause.code)

/-- A change of state, followed by the completion test (R100). -/
def State.transition (s : State) (i : CarId) (st : CarState) (cause : CarCause) : State :=
  (s.enter i st cause).settle

/-! ## Causes and reactions (R91, R92) -/

/-- A centring cause reaches one car: a TRACKING car goes RETURNING (R91). -/
def State.centreCar (s : State) (cause : CarCause) (i : CarId) : State :=
  if s.cars[i].state = .tracking then s.transition i .returning cause else s

/-- A train-level centring cause arises: every TRACKING car goes RETURNING, in car-index order (R91). -/
def State.centreAll (s : State) (cause : CarCause) : State :=
  allCars.foldl (fun s i => s.centreCar cause i) s

/-- The latch reason when a latching cause arises: DRIVE_FAULT replaces SUPERVISION, and nothing replaces
DRIVE_FAULT (R92). -/
def mergeLatch (old : Option LatchReason) (cause : LatchReason) : LatchReason :=
  match old, cause with
  | some .driveFault, _ => .driveFault
  | _, c => c

def State.setLatch (s : State) (i : CarId) (r : Option LatchReason) : State :=
  s.setCar i { s.cars[i] with latchReason := r }

/-- A car-level centring cause arises (R91 for a TRACKING car, Table 5-5 for the others). -/
def State.carCause (s : State) (i : CarId) (cause : LatchReason) (reaction : Reaction) : State :=
  match s.cars[i].state, reaction with
  | .tracking, .centreAndLatch => (s.setLatch i (some cause)).transition i .returning cause.carCause
  | .tracking, .centreAndContinue => s.transition i .returning cause.carCause
  | .centred, .centreAndLatch => (s.setLatch i (some cause)).transition i .latched cause.carCause
  | .returning, .centreAndLatch => s.setLatch i (some (mergeLatch s.cars[i].latchReason cause))
  | .latched, .centreAndLatch => s.setLatch i (some (mergeLatch s.cars[i].latchReason cause))
  | .centred, .centreAndContinue => s
  | .returning, .centreAndContinue => s
  | .latched, .centreAndContinue => s
  | .offline, _ => s
  | .isolated, _ => s
  | .probing, _ => s

/-! ## Answers to requests -/

/-- What a taken request comes to: the state it leaves, the status and the data of its reply (R183). -/
structure Answer where
  state : State
  status : Status
  data : List Byte

/-- A request carried out. -/
def Answer.done (s : State) (data : List Byte := []) : Answer := ⟨s, .ok, data⟩

/-- A request refused: no state changes (R183). -/
def Answer.refuse (s : State) (status : Status) (data : List Byte := []) : Answer := ⟨s, status, data⟩

/-- The reply's KIND: the request's with 0x80 added, unless it is there (R183). -/
def replyKind (kind : Byte) : Byte := kind ||| 0x80

/-- A taken request's one reply (R183). -/
def answerRequest (kind tag : Byte) (a : Answer) : State :=
  a.state.pushReply { kind := replyKind kind, tag := tag, status := a.status, data := a.data }

end Sys2Proof.Machine
end

