-- ==== Sys2Proof/Machine/Conditions.lean ====
section
/-! DEFINITION. The Condition Monitor (chapter 8): the INHIBIT filter, the clock supervisor and the silence
of the control link. -/

namespace Sys2Proof.Machine

/-! ## INHIBIT (R150 to R152) -/

/-- A run of `n` consecutive samples of one level passes the filter: the new filtered level, the new run
count, and whether the level changed (R150). -/
def filterRun (level : Bool) (run : Nat) (sample : Bool) (n : Nat) : Bool × Nat × Bool :=
  if n = 0 then (level, run, false)
  else if sample = level then (level, 0, false)
  else if 3 ≤ run + n then (sample, 0, true)
  else (level, run + n, false)

/-- INHIBIT_SET. High samples pass the filter; when the filtered level goes high, INHIBIT is set, its
urgent notice is posted, and every TRACKING car goes RETURNING (R150, R151). -/
def execInhibitSet (dt highs : Nat) (s : State) : Host.Outcome State Fault Refusal :=
  let s := s.after dt
  let r := filterRun s.mon.inhibitLevel s.mon.inhibitRun true highs
  let s := { s with mon := { s.mon with inhibitLevel := r.1, inhibitRun := r.2.1 } }
  .next <|
    if r.2.2 then
      (({ s with mon := { s.mon with inhibit := true } }).post .inhibit none 1 0).centreAll .inhibit
    else s

/-- INHIBIT_CLEAR. Low samples pass the filter; when the filtered level goes low, INHIBIT is cleared and
its urgent notice is posted; no car changes state (R150, R152). -/
def execInhibitClear (dt lows : Nat) (s : State) : Host.Outcome State Fault Refusal :=
  let s := s.after dt
  let r := filterRun s.mon.inhibitLevel s.mon.inhibitRun false lows
  let s := { s with mon := { s.mon with inhibitLevel := r.1, inhibitRun := r.2.1 } }
  .next <|
    if r.2.2 then ({ s with mon := { s.mon with inhibit := false } }).post .inhibit none 0 0
    else s

/-! ## The clock supervisor (R154 to R156) -/

/-- The least crystal periods of a window that does not fail (R154). -/
def leastPeriods : Nat := 800

/-- The switchover: the internal oscillator, CLOCK_FALLBACK and its urgent notice (R155, R156). -/
def State.switchover (s : State) : State :=
  ({ s with mon := { s.mon with clock := .internal, clockFallback := true } }).post .clockFallback none 1 0

/-- CLOCK_WINDOW. A failed window switches over; once CLOCK_FALLBACK is set there are no further windows
(R154). -/
def execClockWindow (dt periods : Nat) (s : State) : Host.Outcome State Fault Refusal :=
  let s := s.after dt
  .next <| if s.mon.clockFallback = false ∧ periods < leastPeriods then s.switchover else s

/-! ## Control link silence (R157 to R159) -/

/-- LINK_SILENT_ONSET. In RUN or DRAINING with LINK_SILENT clear, the silence timer reaches SILENCE_TIME:
LINK_SILENT is set, and with SILENCE_REACTION CENTRE every TRACKING car goes RETURNING. In CONFIG, or with
LINK_SILENT set, it sets nothing (R158). -/
def execLinkSilentOnset (s : State) : Host.Outcome State Fault Refusal :=
  .next <|
    if s.unit.mode ≠ .config ∧ s.mon.linkSilent = false then
      let s := s.runTo (s.mon.silenceFrom + s.unit.settings.silenceTime * 1000)
      let s := { s with mon := { s.mon with linkSilent := true } }
      if s.silenceCentres then s.centreAll .linkSilent else s
    else s

/-- A valid frame at the Monitor: a silence ends with its notice, and the timer restarts (R157, R159). For a
frame found in bytes examined again too, it restarts from the instant at which the frame is found (log 38). -/
def State.heardFrame (s : State) : State :=
  let silence := s.silenceTimer
  let s := if s.mon.linkSilent then
      ({ s with mon := { s.mon with linkSilent := false } }).post .linkSilentEnd none (u16 silence)
        (u16 s.unit.settings.silenceReaction.code)
    else s
  { s with mon := { s.mon with silenceFrom := s.now } }

end Sys2Proof.Machine
end

