-- ==== Sys2Proof/Machine/Position.lean ====
section
/-! DEFINITION. Car positions, and what a change of the train position brings: the retirement of passed
segments and mismatch records (R7, R8, R32, R140). -/

namespace Sys2Proof.Machine

/-- The end of a segment: start plus length (R22). -/
def Segment.stop (g : Segment) : Nat := g.start + g.length

/-- The rear offset: the last configured car's, 0 while CAR_COUNT is 0 (R8). -/
def Settings.rearOffset (t : Settings) : Nat :=
  if t.carCount = 0 then 0 else t.offsets.toList.getD (t.carCount - 1) 0

/-- The car position: the train position minus the offset, 0 when negative (R8). -/
def State.carPosition (s : State) (i : CarId) : Nat := s.odo.position - s.unit.settings.offsets[i]

/-- The rear car position (R32). -/
def State.rearPosition (s : State) : Nat := s.odo.position - s.unit.settings.rearOffset

/-- Head segments whose end is at or behind `rear` leave the ring; the head start becomes the end of the
last that left (R32). -/
def retireFrom (rear headStart : Nat) : List Segment → Nat × List Segment
  | [] => (headStart, [])
  | g :: rest => if g.stop ≤ rear then retireFrom rear g.stop rest else (headStart, g :: rest)

/-- The retirement of passed segments, made only while the position is valid (R32). -/
def State.retireSegments (s : State) : State :=
  if s.odo.positionValid then
    let r := retireFrom s.rearPosition s.route.headStart s.route.ring
    { s with route := { s.route with headStart := r.1, ring := r.2 } }
  else s

/-- The retirement of mismatch records the rear car has passed by more than MATCH_WINDOW (R140). -/
def State.retireMismatches (s : State) : State :=
  { s with sup := { s.sup with
      mismatches := s.sup.mismatches.filter
        (fun m => !(m.chainage + s.unit.trainSet.matchWindow < s.rearPosition)) } }

/-- The train position and the remainder take new values; a position that differs from the one before is a
change, seen by the retirement of segments (R7, R32) and, when it goes forward, by that of mismatch records:
a backward change retires none of these (R140). -/
def State.movePosition (s : State) (position remainder : Nat) : State :=
  let moved := { s with odo := { s.odo with position := position, remainder := remainder } }
  if s.odo.position < position then moved.retireSegments.retireMismatches
  else if position < s.odo.position then moved.retireSegments
  else moved

end Sys2Proof.Machine
end

