-- ==== Sys2Proof/Machine/Route.lean ====
section
/-! DEFINITION. The Route Queue (chapter 2): look-ups, the commit point, appending, truncation, clearing,
confirming, route doubt, and the lead distance with its latches. -/

namespace Sys2Proof.Machine

/-- The free count (R23). -/
def RouteQueue.free (r : RouteQueue) : Nat := 64 - r.ring.length

/-! ## Look-ups (R29 to R31) -/

/-- The governing segment of a chainage (R29). -/
def RouteQueue.governing (r : RouteQueue) (p : Nat) : Option Segment :=
  if r.anchored then r.ring.find? (fun g => g.start ≤ p && p < g.stop) else none

/-- A value interpolated along a segment, truncating toward zero (R30). -/
def interpolate (v₁ v₂ : Int) (along length : Nat) : Int := v₁ + ((v₂ - v₁) * along).tdiv length

/-- The curvature at a chainage of the segment (R30). -/
def Segment.curvature (g : Segment) (p : Nat) : Int := interpolate g.cStart g.cEnd (p - g.start) g.length

/-- The cant at a chainage of the segment (R30). -/
def Segment.cant (g : Segment) (p : Nat) : Int := interpolate g.hStart g.hEnd (p - g.start) g.length

/-- A straight: curvature 0 at both ends (R22). -/
def Segment.straight (g : Segment) : Bool := g.cStart == 0 && g.cEnd == 0

/-- A point lies in a governing segment that is straight (R94, R99). -/
def RouteQueue.straightAt (r : RouteQueue) (p : Option Nat) : Bool :=
  match p.bind r.governing with
  | some g => g.straight
  | none => false

/-- A point finds no governing segment (R99); an absent point finds none. -/
def RouteQueue.noDataAt (r : RouteQueue) (p : Option Nat) : Bool := (p.bind r.governing).isNone

/-! ## The commit point and the lead point -/

/-- A reported look-ahead point raises the commit point of an anchored queue (R34). -/
def State.reportLookAhead (s : State) (p : Nat) : State :=
  if s.route.anchored then
    { s with route := { s.route with
        commit := some (match s.route.commit with | none => p | some c => max c p) } }
  else s

/-- The lead distance: the end minus the lead point, 0 at or beyond the end (R43). -/
def leadDistance (endChainage lead : Nat) : Nat := endChainage - lead

/-- R44. -/
def State.lowWaterTest (s : State) (lead : Nat) : State :=
  let d := leadDistance s.route.endChainage lead
  if d < s.unit.trainSet.lowWater ∧ s.route.lowLatch = false then
    let s := s.post .routeLow none (u16 (min 32767 (d / 100))) (u16 s.route.ring.length)
    { s with route := { s.route with lowLatch := true } }
  else s

/-- R45. -/
def State.exhaustedTest (s : State) (lead : Nat) : State :=
  if s.route.endChainage ≤ lead ∧ s.route.exhaustedLatch = false then
    let s := s.post .routeExhausted none (u16 s.route.ring.length) 0
    { s with route := { s.route with exhaustedLatch := true } }
  else s

/-- The evaluation after a frame's cars: made while the queue is anchored and the frame has a lead point
(R43). -/
def State.evaluateLead (s : State) (lead : Option Nat) : State :=
  match lead with
  | none => s
  | some p =>
    if s.route.anchored then
      (({ s with route := { s.route with lastLead := some p } }).lowWaterTest p).exhaustedTest p
    else s

/-! ## ROUTE_APPEND (R22, R25 to R27) -/

/-- A record of the request, given its start, as the queue holds it (R22). -/
def segmentAt (start : Nat) (r : SegmentPayload) : Segment :=
  { segId := r.segId, start := start, length := r.length.toNat, cStart := r.cStart.toInt, cEnd := r.cEnd.toInt,
    hStart := r.hStart.toInt, hEnd := r.hEnd.toInt, exempt := r.exempt == 1,
    cap := r.cap.map BitVec.toNat }

/-- The records of an append, each starting at the end of the one before (R22). -/
def segmentsFrom (start : Nat) : List SegmentPayload → List Segment
  | [] => []
  | r :: rest => segmentAt start r :: segmentsFrom (start + r.length.toNat) rest

/-- The end of the last record of an append. -/
def appendEnd (anchor : Nat) (records : List SegmentPayload) : Nat :=
  records.foldl (fun e r => e + r.length.toNat) anchor

/-- A signed field lies within ± a bound. -/
def withinSigned (bound : Int) (z : Int) : Bool := -bound ≤ z && z ≤ bound

/-- A record in range, given its start (R26). -/
def recordGood (start : Nat) (r : SegmentPayload) : Bool :=
  within 100 2000000 r.length.toNat && withinSigned 20000 r.cStart.toInt && withinSigned 20000 r.cEnd.toInt
    && withinSigned 200 r.hStart.toInt && withinSigned 200 r.hEnd.toInt && r.exempt.toNat ≤ 1
    && (match r.cap with | some c => c.toNat ≤ 1000 | none => true)
    && start + r.length.toNat ≤ maxChainage

/-- The index of the first bad record (R26). -/
def firstBadRecord (start index : Nat) : List SegmentPayload → Option Nat
  | [] => none
  | r :: rest =>
    if recordGood start r then firstBadRecord (start + r.length.toNat) (index + 1) rest else some index

/-- The append carried out, steps 1 to 4 of R27. -/
def State.append (s : State) (anchor : Nat) (records : List SegmentPayload) : State :=
  let r := s.route
  let e := appendEnd anchor records
  let relieved := match r.lastLead with
    | some p => decide (s.unit.trainSet.lowWater ≤ leadDistance e p)
    | none => false
  { s with route := { r with
      anchored := true
      headStart := if r.anchored then r.headStart else anchor
      ring := r.ring ++ segmentsFrom anchor records
      endChainage := e
      exhaustedLatch := false
      lowLatch := r.lowLatch && !relieved } }

/-- ROUTE_APPEND as judged by the checks of Table 2-4 and carried out (R25 to R27). A request that is not 1
to 6 records has the wrong length (R195). -/
def requestRouteAppend (anchor : BitVec 32) (records : List SegmentPayload) (s : State) : Answer :=
  if records.length = 0 ∨ 6 < records.length then .refuse s .badLength
  else if s.route.doubt then .refuse s .routeFrozen
  else if s.route.anchored ∧ anchor.toNat ≠ s.route.endChainage then
    .refuse s .notContiguous (bytes32 (u32 s.route.endChainage))
  else match firstBadRecord anchor.toNat 0 records with
    | some index => .refuse s .outOfRange [BitVec.ofNat 8 index]
    | none =>
      if s.route.free < records.length then .refuse s .queueFull [BitVec.ofNat 8 s.route.free]
      else
        let s := s.append anchor.toNat records
        .done s.retireSegments (bytes32 (u32 s.route.endChainage) ++ [BitVec.ofNat 8 s.route.free])

/-! ## ROUTE_TRUNCATE, ROUTE_CLEAR, ROUTE_CONFIRM -/

/-- X is the start of a queued segment or the end of an anchored queue (R36). -/
def RouteQueue.boundary (r : RouteQueue) (x : Nat) : Bool :=
  r.anchored && (r.ring.any (fun g => g.start == x) || x == r.endChainage)

/-- The first allowed boundary: the least queued start at or after the commit point, else the end (R36). -/
def RouteQueue.firstAllowed (r : RouteQueue) (commit : Nat) : Nat :=
  match r.ring.find? (fun g => commit ≤ g.start) with
  | some g => g.start
  | none => r.endChainage

/-- The segments from X on withdrawn, the end at X (R37). -/
def State.truncate (s : State) (x : Nat) : State :=
  { s with route := { s.route with
      ring := s.route.ring.filter (fun g => g.start < x), endChainage := x } }

/-- A truncate that passed both checks (R37). -/
def State.truncated (s : State) (x : Nat) : Answer :=
  let s' := s.truncate x
  .done s' (BitVec.ofNat 8 (s.route.ring.length - s'.route.ring.length)
    :: (bytes32 (u32 x) ++ [BitVec.ofNat 8 s'.route.free]))

/-- ROUTE_TRUNCATE as judged and carried out (R36, R37). -/
def requestRouteTruncate (x : BitVec 32) (s : State) : Answer :=
  if s.route.boundary x.toNat then
    match s.route.commit with
    | some c =>
      if x.toNat < c then
        .refuse s .committed (bytes32 (u32 c) ++ bytes32 (u32 (s.route.firstAllowed c)))
      else s.truncated x.toNat
    | none => s.truncated x.toNat
  else .refuse s .notBoundary

/-- The mismatch table emptied (R141). -/
def State.emptyMismatches (s : State) : State := { s with sup := { s.sup with mismatches := [] } }

/-- ROUTE_CLEAR (R39). -/
def requestRouteClear (s : State) : Answer :=
  .done { s.emptyMismatches with route := .reset } [BitVec.ofNat 8 s.route.ring.length]

/-- ROUTE_CONFIRM (R40). -/
def requestRouteConfirm (s : State) : Answer :=
  if s.route.doubt then
    .done { s.emptyMismatches with route := { s.route with doubt := false } }
  else .refuse s .wrongState

/-! ## Route doubt (R41) -/

/-- The route-doubt event: with ROUTE_DOUBT clear it is set, its urgent notice posted, and every TRACKING
car sent to RETURNING; with it set, nothing (R41, R143). -/
def State.raiseDoubt (s : State) (confirming matching : CarId) (difference : Int) : State :=
  if s.route.doubt then s
  else
    let s := { s with route := { s.route with doubt := true } }
    (s.post .routeDoubt (some confirming) (u16 matching.val) (held16 difference)).centreAll .routeDoubt

/-! ## QUERY_ROUTE (R47) -/

/-- A record of the reply, 17 bytes (section 11.4). -/
def Segment.report (g : Segment) : List Byte :=
  let length : BitVec 24 := BitVec.ofNat 24 (g.length + bit 21 g.cap.isSome + bit 22 g.exempt)
  let word : BitVec 32 := (BitVec.ofInt 9 g.hStart) ++ ((BitVec.ofInt 9 g.hEnd)
    ++ ((BitVec.ofNat 10 (g.cap.getD 0)) ++ (0 : BitVec 4)))
  bytes32 (u32 g.start) ++ bytes16 g.segId ++ bytes24 length ++ bytes16 (s16 g.cStart)
    ++ bytes16 (s16 g.cEnd) ++ bytes32 word

/-- QUERY_ROUTE: the queue report and up to six records from a ring index (R47, Table 11-7). -/
def requestQueryRoute (index : Byte) (s : State) : Answer :=
  if 63 < index.toNat then .refuse s .outOfRange
  else
    let r := s.route
    .done s ([s.routeFlags]
      ++ bytes32 (u32 (if r.anchored then r.headStart else 0))
      ++ bytes32 (u32 (if r.anchored then r.endChainage else 0))
      ++ bytes32 (u32 (r.commit.getD 0)) ++ [BitVec.ofNat 8 r.ring.length]
      ++ ((r.ring.drop index.toNat).take 6).flatMap Segment.report)

end Sys2Proof.Machine
end

