-- ==== Sys2Proof/Machine/Demand.lean ====
section
/-! DEFINITION. The Demand Calculator (chapter 3): the speed gate, the look-ahead point, the lateral
acceleration, the raw tilt, the effective limit and the target. -/

namespace Sys2Proof.Machine

/-- The speed gate's hysteresis (Table 0-4). -/
def gateHysteresis : Nat := 1389

/-- The evaluation of the speed gate (R60). -/
def gateAfter (v vMin : Nat) (gateOpen : Bool) : Bool :=
  if v = 0 then false
  else if vMin ≤ v then true
  else if v + gateHysteresis < vMin then false
  else gateOpen

/-- The look-ahead point of a car position (R53). -/
def lookAhead (carPosition v leadTime : Nat) : Nat :=
  min maxChainage (carPosition + v * leadTime / 10000)

/-- The uncompensated lateral acceleration (R56). -/
def lateralAcceleration (v : Nat) (c h : Int) : Int :=
  hold (-9999) 9999 (((v : Int) * v * c).tdiv 1000000000 - (9807 * h).tdiv 1500)

/-- The dead band applied (R58). -/
def effectiveAcceleration (a : Int) (deadBand : Nat) : Int :=
  if a.natAbs ≤ deadBand then 0 else if 0 < a then a - deadBand else a + deadBand

/-- The raw tilt in cdeg (R59). -/
def rawTilt (a : Int) (k : Nat) : Int := (a * k * 5843).tdiv 10000000

/-- A segment cap that bounds a limit (R63). -/
def capLimit (limit : Nat) (g : Option Segment) : Nat :=
  match g.bind Segment.cap with
  | some cap => min limit cap
  | none => limit

/-- The limit of R62 before the segment caps. -/
def State.baseLimit (s : State) (i : CarId) : Nat :=
  let tiltMax := s.unit.settings.tiltMax
  if s.reduced i then min tiltMax (min s.cars[i].law.tiltDegraded tiltMax) else tiltMax

/-- What a computation hands to the Channel Controller (R66). -/
structure Demand where
  target : Int
  reason : Reason
  limit : Nat
  position : Option Nat
  lookAhead : Option Nat
deriving DecidableEq, Repr

/-- The target with route data and an OPEN gate (R64). -/
def clampTilt (raw : Int) (limit : Nat) : Int × Reason :=
  if raw.natAbs ≤ limit then (raw, .law) else (sign raw * limit, .capped)

/-- The target and reason at the look-ahead point (R55, R61, R64). -/
def State.targetAt (s : State) (law : TiltLaw) (v p limit : Nat) : Int × Reason :=
  match s.route.governing p with
  | none => (0, .noRoute)
  | some g =>
    if s.gateOpen then
      clampTilt (rawTilt (effectiveAcceleration
        (lateralAcceleration v (g.curvature p) (g.cant p)) law.deadBand) law.k) limit
    else (0, .speed)

/-- The computation of one car from the frame's speed (R51 to R66). -/
def State.demand (s : State) (v : Nat) (i : CarId) : Demand :=
  if s.odo.positionValid then
    let position := s.carPosition i
    let p := lookAhead position v s.cars[i].law.leadTime
    let limit := capLimit (capLimit (s.baseLimit i) (s.route.governing position)) (s.route.governing p)
    let t := s.targetAt s.cars[i].law v p limit
    { target := t.1, reason := t.2, limit := limit, position := some position, lookAhead := some p }
  else
    { target := 0, reason := .noRoute, limit := s.baseLimit i, position := none, lookAhead := none }

end Sys2Proof.Machine
end

