-- ==== Sys2Proof/Machine/Odometry.lean ====
section
/-! DEFINITION. The Odometry Unit (chapter 1): tachometer pulses, speed, the train position, the comparison
window, markers, SET_POSITION and POSITION_FIX. -/

namespace Sys2Proof.Machine

/-! ## The two channels -/

def State.tacho (s : State) : Tacho → TachoChannel
  | .a => s.odo.tachoA
  | .b => s.odo.tachoB

def State.setTacho (s : State) (ch : Tacho) (t : TachoChannel) : State :=
  match ch with
  | .a => { s with odo := { s.odo with tachoA := t } }
  | .b => { s with odo := { s.odo with tachoB := t } }

/-- The distance per pulse of a channel (section 1.1). -/
def Settings.dpp (t : Settings) : Tacho → Nat
  | .a => t.dppA
  | .b => t.dppB

/-- The instant of a stall: the first µs at which more than 2,000,000 µs have passed since the last pulse was
accepted, which was 20 µs after its rising edge at `last` (R1, R4, log 7). -/
def stallInstant (last : Nat) : Nat := last + pulseFilterTime + stallTime + 1

/-- The speed of a channel at the moment of reading (R3); 0 once the stall of R4 is due (log 7). -/
def TachoChannel.speed (t : TachoChannel) (dpp now : Nat) : Nat :=
  match t.periods, t.last with
  | [p₁, p₂, p₃, p₄], some last =>
    let elapsed := now - last
    if stallInstant last ≤ now then 0
    else min 90000 (4 * dpp * 1000 / (max p₁ elapsed + p₂ + p₃ + p₄))
  | _, _ => 0

def State.channelSpeed (s : State) (ch : Tacho) : Nat :=
  (s.tacho ch).speed (s.unit.settings.dpp ch) s.now

/-- The train speed: that of the selected channel (R5). -/
def State.speed (s : State) : Nat := s.channelSpeed s.odo.selected

/-! ## Pulses (R1, R2, R6) -/

/-- The period capture: a period of at most 2,000,000 µs becomes the newest of at most four; with no last
pulse time, or after a gap in which a stall came, none is formed (R2, R4, log 7). -/
def TachoChannel.capture (t : TachoChannel) (time : Nat) : TachoChannel :=
  match t.last with
  | none => { t with last := some time }
  | some last =>
    if stallTime < time - last then { t with last := some time, periods := [] }
    else { t with last := some time, periods := ((time - last) :: t.periods).take 4 }

/-- A selected-channel pulse moves a valid position: DPP joins the remainder, and whole centimetres are
carried into the saturating position (R6). -/
def State.advance (s : State) (dpp : Nat) : State :=
  let total := s.odo.remainder + dpp
  if s.odo.position + total / 10000 ≤ maxChainage then
    s.movePosition (s.odo.position + total / 10000) (total % 10000)
  else s.movePosition maxChainage 0

/-- An accepted pulse, whose time is that of its rising edge, handed to the period capture, the window
distance and, on the selected channel with a valid position, the position (R1). -/
def State.acceptPulse (s : State) (ch : Tacho) (time : Nat) : State :=
  let dpp := s.unit.settings.dpp ch
  let t := (s.tacho ch).capture time
  let s := s.setTacho ch { t with windowDistance := t.windowDistance + dpp }
  if ch = s.odo.selected ∧ s.odo.positionValid then s.advance dpp else s

/-- The rising edge of a level that has held for `held` µs has been seen: it lies after the reset, the line
has been low before it, and no pulse of the channel is as late (R1, log 6). -/
def State.edgeSeen (s : State) (ch : Tacho) (fell : Bool) (held : Nat) : Bool :=
  held ≤ s.now && (fell || !(s.tacho ch).high)
    && (match (s.tacho ch).last with | none => true | some last => last < s.now - held)

/-- TACHO_PULSE. A level whose rising edge has been seen is a pulse once it has held for 20 µs; one that
falls earlier is discarded; one whose edge has not been seen gives no pulse (R1). -/
def execTachoPulse (dt : Nat) (ch : Tacho) (fell : Bool) (held : Nat) (s : State) :
    Host.Outcome State Fault Refusal :=
  let s := s.after dt
  .next <|
    if s.edgeSeen ch fell held then
      if pulseFilterTime ≤ held then
        (s.setTacho ch { s.tacho ch with high := true, highSince := s.now - held }).acceptPulse ch
          (s.now - held)
      else s.setTacho ch { s.tacho ch with high := false }
    else s

/-- TACHO_STALL. When a further µs begins after 2,000,000 µs without a pulse accepted, the history is cleared
and the last pulse time becomes absent (R4, log 7). With no last pulse time there is no stall to come
(log 4). -/
def execTachoStall (ch : Tacho) (s : State) : Host.Outcome State Fault Refusal :=
  .next <|
    match (s.tacho ch).last with
    | some last =>
      (s.runTo (stallInstant last)).setTacho ch { s.tacho ch with periods := [], last := none }
    | none => s

/-! ## The comparison window (R9 to R12) -/

/-- The channel with the larger distance; the one selected when they are equal (R12). -/
def largerChannel (dA dB : Nat) (selected : Tacho) : Tacho :=
  if dB < dA then .a else if dA < dB then .b else selected

/-- A tested window disagrees (R10). -/
def disagrees (dA dB limit : Nat) : Bool := limit * max dA dB < (max dA dB - min dA dB) * 100

/-- The ODOMETRY_DOUBT notice (R19). -/
def State.postDoubt (s : State) : State :=
  s.post .odometryDoubt none (u16 (if s.odo.doubt then 1 else 0)) (u16 (tachoCode s.odo.selected))

/-- A disagreeing window (R10), which sets ODOMETRY_DOUBT at the fourth (R11) and selects afresh under
doubt (R12). -/
def State.windowDisagrees (s : State) (dA dB : Nat) : State :=
  let n := min 4 (s.odo.disagreements + 1)
  let larger := largerChannel dA dB s.odo.selected
  let s₁ := { s with odo := { s.odo with disagreements := n, agreements := 0 } }
  if s.odo.doubt then { s₁ with odo := { s₁.odo with selected := larger } }
  else if n = 4 then ({ s₁ with odo := { s₁.odo with doubt := true, selected := larger } }).postDoubt
  else s₁

/-- An agreeing window (R10), which clears ODOMETRY_DOUBT at the eighth and selects afresh under doubt
(R12). -/
def State.windowAgrees (s : State) (dA dB : Nat) : State :=
  let n := min 8 (s.odo.agreements + 1)
  let s₁ := { s with odo := { s.odo with agreements := n, disagreements := 0 } }
  if s.odo.doubt then
    if n = 8 then ({ s₁ with odo := { s₁.odo with doubt := false, selected := .a } }).postDoubt
    else { s₁ with odo := { s₁.odo with selected := largerChannel dA dB s.odo.selected } }
  else s₁

/-- The test of a window, made only when the train has run 50 cm in it (R10). -/
def State.compareWindow (s : State) (dA dB : Nat) : State :=
  if max dA dB < 500000 then s
  else if disagrees dA dB s.unit.settings.odoLimit then s.windowDisagrees dA dB
  else s.windowAgrees dA dB

/-- COMPARISON_WINDOW. At the expiry the two distances are tested and set to 0, and the timer restarts
(R9, R10). -/
def execComparisonWindow (s : State) : Host.Outcome State Fault Refusal :=
  let expiry := s.odo.windowStart + windowPeriod
  let dA := s.odo.tachoA.windowDistance
  let dB := s.odo.tachoB.windowDistance
  let s := s.runTo expiry
  .next <| ({ s with odo := { s.odo with
      windowStart := expiry
      tachoA := { s.odo.tachoA with windowDistance := 0 }
      tachoB := { s.odo.tachoB with windowDistance := 0 } } }).compareWindow dA dB

/-! ## Markers (R13, R14) -/

/-- An accepted marker is captured when the position is valid (R14). -/
def State.captureMarker (s : State) : State :=
  if s.odo.positionValid then
    let n := s.odo.sequence + 1
    let kept := if s.odo.captures.length < 4 then s.odo.captures else s.odo.captures.drop 1
    ({ s with odo := { s.odo with
        sequence := n, captures := kept ++ [(⟨n, s.odo.position⟩ : Capture)] } }).post
      .marker none (n.setWidth 16) 0
  else s

/-- One 1 ms sample: the third consecutive high one after a low one is an accepted marker (R13). -/
def State.markerSample (s : State) (level : Bool) : State :=
  let f := s.odo.markerFilter
  let s := { s with odo := { s.odo with markerFilter := ⟨f.middle, f.newest, level⟩ } }
  if !f.oldest && f.middle && f.newest && level then s.captureMarker else s

/-- MARKER_PULSE. The samples taken since the last one pass the filter (R13, log 19). -/
def execMarkerPulse (dt : Nat) (samples : List Bool) (s : State) : Host.Outcome State Fault Refusal :=
  .next <| samples.foldl State.markerSample (s.after dt)

/-! ## SET_POSITION and POSITION_FIX -/

/-- SET_POSITION as judged and carried out (R15). -/
def requestSetPosition (chainage : BitVec 32) (s : State) : Answer :=
  if s.unit.mode ≠ .config then .refuse s .wrongMode
  else if chainage.toNat < s.unit.settings.rearOffset then .refuse s .outOfRange
  else .done (({ s with odo := { s.odo with positionValid := true, captures := [] } }).movePosition
    chainage.toNat 0)

/-- The captures newer than the entry of a sequence, and the captured position of that entry (R16, R17). -/
def findCapture (n : Byte) : List Capture → Option (Nat × List Capture)
  | [] => none
  | e :: newer => if e.sequence = n then some (e.position, newer) else findCapture n newer

/-- Value B of POSITION_CORRECTED (Table 1-3), and the flags of the reply to POSITION_FIX (Table 11-7), whose bits 7
to 2 have no meaning there and are sent as 0 by the model's choice (log 39). -/
def fixCode (large clamped : Bool) : Nat := bit 0 large + bit 1 clamped

/-- POSITION_FIX as judged and carried out (R16 to R18). -/
def requestPositionFix (n : Byte) (surveyed : BitVec 32) (s : State) : Answer :=
  match findCapture n s.odo.captures with
  | none => .refuse s .noCapture
  | some (captured, newer) =>
    let correction : Int := surveyed.toNat - captured
    let raw : Int := s.odo.position + correction
    let target := (max (s.unit.settings.rearOffset : Int) (min (maxChainage : Int) raw)).toNat
    let clamped := decide ((target : Int) ≠ raw)
    let shift : Int := target - s.odo.position
    let large := decide (s.unit.settings.fixWindow < correction.natAbs)
    let s := { s with odo := { s.odo with
      captures := newer.map (fun e : Capture => { e with position := shiftChainage e.position shift }) } }
    let s := s.movePosition target (if clamped then 0 else s.odo.remainder)
    let s := s.post .positionCorrected none (held16 correction) (u16 (fixCode large clamped))
    let s := if large then s.centreAll .positionJump else s
    .done s (bytes32 (BitVec.ofInt 32 (hold (-2147483648) 2147483647 correction))
      ++ [BitVec.ofNat 8 (fixCode large clamped)] ++ bytes32 (u32 s.odo.position))

end Sys2Proof.Machine
end

