-- ==== Sys2Proof/Machine/Polling.lean ====
section
/-! DEFINITION. The poll cycle of the Actuator Link Master (R113 to R115): its list, its turns, and the cars
that it leaves to the next one. -/

namespace Sys2Proof.Machine

/-- The cars a cycle that starts now addresses (R113). -/
def State.cycleList (s : State) : List CarId := s.configured.filter (fun i => s.cars[i].state.polled)

/-- The turn of the next car in the list comes; an OFFLINE or ISOLATED car is passed over (R115). -/
def State.openTurn (s : State) (cars : List CarId) : List CarId → Option PollCycle
  | [] => none
  | i :: rest =>
    if s.cars[i].state.polled then
      some { cars := cars, current := i, toCome := rest, phase := .waiting s.now }
    else s.openTurn cars rest

/-- A cycle starts, with its list formed at once; an empty one ends as it starts (R113). -/
def State.startCycle (s : State) : State :=
  { s with link := { s.link with cycle := s.openTurn s.cycleList s.cycleList } }

/-- The transaction has ended: the next turn comes, or the cycle ends and a pending one starts
(R113, R114). -/
def State.endTransaction (s : State) (c : PollCycle) : State :=
  match s.openTurn c.cars c.toCome with
  | some next => { s with link := { s.link with cycle := some next } }
  | none =>
    if s.link.cyclePending then
      ({ s with link := { s.link with cycle := none, cyclePending := false } }).startCycle
    else { s with link := { s.link with cycle := none } }

/-- The cars that come to qualify for polling now are first addressed in the next cycle that starts (R113, R126,
R171): a cycle in progress addresses none of them, even one that its list held before. The turn of one of them
that waits for an idle line, no setpoint having been sent, is passed over (log 35). -/
def State.leaveToNextCycle (s : State) (joins : CarId → Bool) : State :=
  match s.link.cycle with
  | none => s
  | some c =>
    let kept := { c with toCome := c.toCome.filter (fun i => !joins i) }
    let running := { s with link := { s.link with cycle := some kept } }
    match c.phase with
    | .waiting _ => if joins c.current then s.endTransaction kept else running
    | .sending _ _ => running
    | .window _ _ => running
    | .receiving _ _ _ => running

end Sys2Proof.Machine
end

