-- ==== Sys2Proof/Machine/Profile.lean ====
section
/-! DEFINITION. The Profile Generator (chapter 4): one step of a car's tilt command toward its target. It
is a function of θ, ω, the target, the active law and TILT_MAX alone (R85). -/

namespace Sys2Proof.Machine

/-- The rate step per frame, ACCEL / 50 (R70). -/
def TiltLaw.rateStep (law : TiltLaw) : Int := (law.accel / 50 : Nat)

/-- The stopping distance in fine units (R72). -/
def stoppingDistance (omega step : Int) : Int := (omega * omega) / step + omega.natAbs

/-- A deceleration: ω moves toward 0 by Δω and does not pass it (R74). -/
def decelerate (omega step : Int) : Int :=
  if step < omega then omega - step else if omega < -step then omega + step else 0

/-- An acceleration: ω moves toward s × OMEGA_MAX by Δω and does not pass it (R74). -/
def accelerate (omega step s : Int) (omegaMax : Nat) : Int :=
  if 0 < s then
    (if omega ≤ omegaMax then min (omega + step) omegaMax else max (omega - step) omegaMax)
  else
    (if -(omegaMax : Int) ≤ omega then max (omega - step) (-omegaMax) else min (omega + step) (-omegaMax))

/-- The choice of rate of Table 4-2 (R73). -/
def chooseRate (e omega step : Int) (omegaMax : Nat) : Int :=
  if e = 0 ∧ omega = 0 then 0
  else if omega ≠ 0 ∧ sign omega ≠ sign e then decelerate omega step
  else if (e.natAbs : Int) ≤ stoppingDistance omega step then decelerate omega step
  else accelerate omega step (sign e) omegaMax

/-- The new command is at or beyond the target in the direction of the error (R76). -/
def arrived (e theta goal : Int) : Bool :=
  if 0 < e then goal ≤ theta else if e < 0 then theta ≤ goal else false

/-- The step of R75, with the arrival of R76 and the bound at ±TILT_MAX. -/
def moveTilt (theta omega goal e : Int) (tiltMax : Nat) : Int × Int :=
  let next := theta + 2 * omega
  let bound : Int := tiltMax * 100
  if arrived e next goal then (goal, 0)
  else if bound < next then (bound, 0)
  else if next < -bound then (-bound, 0)
  else (next, omega)

/-- One step of the Profile Generator: the new θ and ω (R70 to R76). -/
def profileStep (theta omega target : Int) (law : TiltLaw) (tiltMax : Nat) : Int × Int :=
  let goal := target * 100
  let e := goal - theta
  moveTilt theta (chooseRate e omega law.rateStep law.omegaMax) goal e tiltMax

end Sys2Proof.Machine
end

