-- ==== Sys2Proof/Machine/Channels.lean ====
section
/-! DEFINITION. The Channel Controller (chapter 5): the control frame, tilt-law application, the resume and
drain tests, RESUME, and the making of the train. -/

namespace Sys2Proof.Machine

/-! ## Tilt laws (R95 to R97) -/

/-- The record takes the staged law and its generation (R96). -/
def State.copyLaw (s : State) (i : CarId) : State :=
  s.setCar i { s.cars[i] with law := s.unit.stagedLaw, generation := s.unit.stagedGeneration }

/-- A configured car takes the staged law, with its PARAM_APPLIED notice (R97, R110). -/
def State.takeLaw (s : State) (i : CarId) : State :=
  (s.copyLaw i).post .paramApplied (some i) s.unit.stagedGeneration (u16 s.cars[i].state.code)

/-- Step 1 of the frame (R88, R97). -/
def State.frameLaw (s : State) (i : CarId) : State :=
  if s.cars[i].quiet && s.cars[i].generation != s.unit.stagedGeneration then s.takeLaw i else s

/-! ## Tests on a car (R93, R94, R99) -/

/-- The resume test of a CENTRED car (R94). -/
def State.resumes (s : State) (i : CarId) : Bool :=
  s.unit.mode == .run && !s.centringActive && !s.cars[i].driveFault && s.gateOpen
    && s.route.straightAt s.cars[i].lastPosition && s.route.straightAt s.cars[i].lastLookAhead

/-- The drain test of a TRACKING car (R99). -/
def State.drains (s : State) (i : CarId) : Bool :=
  let p := s.cars[i].lastPosition
  let q := s.cars[i].lastLookAhead
  (s.route.straightAt p && s.route.straightAt q) || s.route.noDataAt p || s.route.noDataAt q || !s.gateOpen

/-- The drain test applied (R99): a car whose test holds goes RETURNING with cause DRAIN. -/
def State.drainCar (s : State) (i : CarId) : State :=
  if s.drains i then s.centreCar .drain i else s

/-- Step 5 of the frame: one test, by the state the car has (R88). -/
def State.stateTest (s : State) (i : CarId) : State :=
  match s.cars[i].state with
  | .returning =>
    if s.cars[i].quiet then
      s.transition i (if s.cars[i].latchReason.isSome then .latched else .centred) .arrived
    else s
  | .centred =>
    if s.resumes i then (s.setSuspended i false).transition i .tracking .resumed else s
  | .tracking => if s.unit.mode == .draining then s.drainCar i else s
  | .offline | .latched | .isolated | .probing => s

/-! ## The control frame (R87, R88) -/

/-- Steps 2 and 3: the record takes the computation, and a car that is not TRACKING has its target forced
to 0 (R67, R88). -/
def CarChannel.take (c : CarChannel) (d : Demand) : CarChannel :=
  let tracking := c.state == .tracking
  { c with
    target := if tracking then d.target else 0
    reason := if tracking then d.reason else .forcedZero
    limit := d.limit
    lastPosition := d.position
    lastLookAhead := d.lookAhead }

/-- Step 4: the profile step (R70). -/
def CarChannel.step (c : CarChannel) (tiltMax : Nat) : CarChannel :=
  let m := profileStep c.theta c.omega c.target c.law tiltMax
  { c with theta := m.1, omega := m.2 }

/-- The report of the computed look-ahead point (R54). -/
def State.report (s : State) (d : Demand) : State :=
  match d.lookAhead with
  | some p => s.reportLookAhead p
  | none => s

/-- Steps 2 to 5 for a car that is computed. -/
def State.computeCar (s : State) (v : Nat) (i : CarId) : State :=
  let d := s.demand v i
  (((s.report d).setCar i ((s.cars[i].take d).step s.unit.settings.tiltMax))).stateTest i

/-- One car's turn within the frame (R88). -/
def State.frameCar (s : State) (v : Nat) (i : CarId) : State :=
  let s := s.frameLaw i
  if s.cars[i].state.computed then s.computeCar v i else s

/-- The look-ahead point a car reports in this frame, taken from its record as the frame left it (R54). -/
def State.reported (s : State) (i : CarId) : Option Nat := s.cars[i].lastLookAhead

/-- The greater of two points, either of which may be absent. -/
def laterPoint : Option Nat → Option Nat → Option Nat
  | some a, some b => some (max a b)
  | some a, none => some a
  | none, b => b

/-- The frame's lead point so far: car 0's report when it made one, else the greatest (R43). -/
def leadPoint (i : CarId) (report lead : Option Nat) (leadIsCar0 : Bool) : Option Nat × Bool :=
  if leadIsCar0 then (lead, true)
  else if i = 0 ∧ report.isSome then (report, true)
  else (laterPoint lead report, false)

/-- The cars of the frame in turn, with the frame's lead point (R43, R87). -/
def frameCars (v : Nat) : List CarId → State → Option Nat → Bool → State × Option Nat
  | [], s, lead, _ => (s, lead)
  | i :: rest, s, lead, car0 =>
    let computed := s.cars[i].state.computed
    let s := s.frameCar v i
    let l := leadPoint i (if computed then s.reported i else none) lead car0
    frameCars v rest s l.1 l.2

/-- CONTROL_FRAME. The gate, each configured car, the lead-point evaluation, and the completion test
(R50, R87). -/
def execControlFrame (s : State) : Host.Outcome State Fault Refusal :=
  let expiry := s.frameStart + framePeriod
  let s := { s.runTo expiry with frameStart := expiry }
  let v := s.speed
  let s := { s with gateOpen := gateAfter v s.unit.trainSet.vMin s.gateOpen }
  let r := frameCars v s.configured s none false
  .next ((r.1.evaluateLead r.2).settle)

/-! ## RESUME (R104, R105) -/

/-- A LATCHED car released: CENTRED, the latch reason absent, cause RESUME_REQUEST (R104). -/
def State.release (s : State) (i : CarId) : State := (s.setLatch i none).transition i .centred .resumeRequest

/-- A LATCHED car whose latch reason's cause is no longer active. -/
def CarChannel.releasable (c : CarChannel) : Bool := c.state == .latched && !c.latchActive

/-- Every releasable car released, in car-index order, with their number (R105). -/
def releaseCars : List CarId → State → Nat → State × Nat
  | [], s, n => (s, n)
  | i :: rest, s, n =>
    if s.cars[i].releasable then releaseCars rest (s.release i) (n + 1) else releaseCars rest s n

/-- RESUME with index 0xFF (R105). -/
def requestResumeAll (s : State) : Answer :=
  let r := releaseCars s.configured s 0
  .done r.1 [BitVec.ofNat 8 r.2]

/-- RESUME (R104); an index of 0xFF names every car (R105). -/
def requestResume (car : Byte) (s : State) : Answer :=
  if car = 0xFF then requestResumeAll s
  else match s.namedCar car with
    | none => .refuse s .badCar
    | some i =>
      if s.cars[i].state ≠ .latched then .refuse s .notLatched
      else if s.cars[i].latchActive then .refuse s .causeActive
      else .done (s.release i) [1]

/-! ## Making the train (R106) -/

/-- An OFFLINE car made part of the train (R106). -/
def State.admitCar (s : State) (i : CarId) : State :=
  (s.setCar i { s.cars[i] with
      theta := 0, omega := 0, limit := s.unit.settings.tiltMax, driveFault := false, supervision := false,
      healthReduce := false, latchReason := none, lastPosition := none, lastLookAhead := none }).transition
    i .centred .configure

/-- A car dropped from the train, in its channel (R106). -/
def State.dropCar (s : State) (i : CarId) : State :=
  (s.setCar i { s.cars[i] with
      driveFault := false, supervision := false, healthReduce := false, latchReason := none,
      lastPosition := none, lastLookAhead := none }).transition i .offline .configure

/-- Step 1 of R171 for one car, against the new CAR_COUNT. -/
def State.recount (s : State) (i : CarId) : State :=
  if i.val < s.unit.settings.carCount then
    (if s.cars[i].state = .offline then s.admitCar i else s)
  else if s.cars[i].state = .offline then s else s.dropCar i

/-- Step 2 of R171 for a dropped car: the master's and the Supervisor's items (R106). -/
def State.forgetCar (s : State) (i : CarId) : State :=
  let d := s.link.drives[i]
  { s with
    link := { s.link with
      drives := s.link.drives.set i { d with health := 0, probing := 0, warned := false, lastGood := none } }
    sup := { persistence := s.sup.persistence.set i 0
             suspended := s.sup.suspended.set i false
             mismatches := s.sup.mismatches.filter (fun m => m.car ≠ i) } }

/-- CONFIGURE_TRAIN as judged and carried out (R170, R171). Cars made part of the train are first polled in the next
cycle that starts. -/
def requestConfigureTrain (p : TrainPayload) (s : State) : Answer :=
  if s.unit.mode ≠ .config then .refuse s .wrongMode
  else match firstBad (trainChecks p) with
    | some index => .refuse s .outOfRange [BitVec.ofNat 8 index]
    | none =>
      let joins := fun i : CarId => decide (i.val < p.carCount.toNat) && s.cars[i].state == .offline
      let dropped := allCars.filter
        (fun i => decide (p.carCount.toNat ≤ i.val) && s.cars[i].state != .offline)
      let s := { s with unit := { s.unit with settings := trainSettings p } }
      let s := allCars.foldl State.recount s
      .done ((dropped.foldl State.forgetCar s).leaveToNextCycle joins)

end Sys2Proof.Machine
end

