-- ==== Sys2Proof/Machine/Supervision.lean ====
section
/-! DEFINITION. The Lateral Supervisor (chapter 7): which replies are evaluated, prediction and residual,
confirmation, and the mismatch table. -/

namespace Sys2Proof.Machine

/-- The tilt term (R133). -/
def tiltTerm (tilt : Int) : Int := (9807 * tilt * 1745).tdiv 10000000

/-- The prediction a_pred at a car position of a segment (R133). -/
def State.prediction (s : State) (g : Segment) (p : Nat) (tilt : Int) : Int :=
  lateralAcceleration s.speed (g.curvature p) (g.cant p) - tiltTerm tilt

/-- The segment a reply is judged against, when the reply is not blanked (R132). -/
def State.judgedSegment (s : State) (i : CarId) : Option Segment :=
  if s.sup.suspended[i] then none
  else match s.route.governing (s.carPosition i) with
    | none => none
    | some g =>
      if g.exempt then none
      else if s.carPosition i - g.start < s.unit.trainSet.blankDist then none
      else some g

/-- Two chainages within MATCH_WINDOW of each other (R137). -/
def State.nearby (s : State) (p q : Nat) : Bool := max p q - min p q ≤ s.unit.trainSet.matchWindow

/-- The matching record: the oldest from another car within the window (R138). -/
def State.matching (s : State) (i : CarId) (p : Nat) : Option Mismatch :=
  s.sup.mismatches.find? (fun m => m.car != i && s.nearby m.chainage p)

/-- The record {p, i} inserted as the newest; at 4 records the oldest is removed first (R139). -/
def insertMismatch (table : List Mismatch) (m : Mismatch) : List Mismatch :=
  (if table.length < 4 then table else table.drop 1) ++ [m]

/-- The table consulted by a confirmation of car `i` at `p` (R138, R139, R143). -/
def State.consult (s : State) (i : CarId) (p : Nat) : State :=
  match s.matching i p with
  | some m => s.raiseDoubt i m.car ((p : Int) - m.chainage)
  | none =>
    if s.sup.mismatches.any (fun m => s.nearby m.chainage p) then s
    else { s with sup := { s.sup with mismatches := insertMismatch s.sup.mismatches ⟨p, i⟩ } }

/-- A confirmed mismatch, the steps of R135 in order. -/
def State.confirmMismatch (s : State) (i : CarId) (p : Nat) (residual predicted : Int) : State :=
  let s := (s.setPersistence i 0).setSuspended i true
  let s := s.carCause i .supervision s.unit.settings.supervisionReaction
  let s := s.post .mismatch (some i) (held16 residual) (held16 predicted)
  s.consult i p

/-- The residual test (R134). -/
def State.testResidual (s : State) (i : CarId) (p : Nat) (residual predicted : Int) : State :=
  if s.unit.trainSet.supThreshold < residual.natAbs then
    let n := s.sup.persistence[i] + 1
    if s.unit.trainSet.supCount ≤ n then s.confirmMismatch i p residual predicted
    else s.setPersistence i n
  else s.setPersistence i 0

/-- A handed reply: evaluated with a valid position and the gate OPEN, then blanked or tested
(R131 to R134). -/
def State.superviseReply (s : State) (i : CarId) (r : DriveReport) : State :=
  if s.odo.positionValid && s.gateOpen then
    match s.judgedSegment i with
    | none => s.setPersistence i 0
    | some g =>
      let p := s.carPosition i
      let predicted := s.prediction g p r.tilt
      s.testResidual i p (r.lateral - predicted) predicted
  else s.setPersistence i 0

end Sys2Proof.Machine
end

