-- ==== Sys2Proof/Machine/Actuator.lean ====
section
/-! DEFINITION. The Actuator Link Master (chapter 6): the poll cycle, the transaction, the judging of a
reception, the health counter, isolation and probing. -/

namespace Sys2Proof.Machine

/-! ## The poll cycle (R113, R114) -/

/-- POLL_CYCLE_EXPIRY. With no cycle in progress one starts (R113); else the expiry is an overrun, and a
cycle becomes pending (R114). -/
def execPollCycleExpiry (s : State) : Host.Outcome State Fault Refusal :=
  let expiry := s.link.pollStart + pollPeriod
  let s := s.runTo expiry
  let s := { s with link := { s.link with pollStart := expiry } }
  .next <|
    if s.link.cycle.isNone then s.startCycle
    else { s with link := { s.link with overruns := bump s.link.overruns, cyclePending := true } }

/-! ## The setpoint (R115, R116) -/

/-- TRACK in RUN or DRAINING for a TRACKING, RETURNING or CENTRED car, LOCK otherwise (Table 6-2). -/
def State.commandTrack (s : State) (i : CarId) : Bool :=
  s.unit.mode != .config &&
    (match s.cars[i].state with
     | .tracking | .returning | .centred => true
     | .offline | .latched | .isolated | .probing => false)

/-- The SETPOINT frame composed now (Table 6-2). -/
def State.composeSetpoint (s : State) (i : CarId) : SetpointFrame :=
  { car := i, track := s.commandTrack i, setpoint := s16 (roundCdeg s.cars[i].theta),
    rate := s16 s.cars[i].omega, sequence := s.link.drives[i].sequence + 1 }

def State.setPhase (s : State) (c : PollCycle) (p : Phase) : State :=
  { s with link := { s.link with cycle := some { c with phase := p } } }

/-- When the line will have been idle for 20 µs of a turn: both the turn and the last byte received lie 20 µs
back (R115, log 13). -/
def setpointInstant (turnAt lineIdleFrom : Nat) : Nat := max turnAt lineIdleFrom + lineIdleTime

/-- The line is idle within 4,000 µs of the turn (R115). -/
def lineIdleInTime (turnAt lineIdleFrom : Nat) : Bool :=
  setpointInstant turnAt lineIdleFrom ≤ turnAt + turnWaitLimit

/-- SETPOINT_SEND. In a car's turn, once the line has been idle for 20 µs, and within 4,000 µs of the turn, the
setpoint is composed, its sequence kept, and sending begins (R115, R116). The line is busy with the bytes that
were received, and for `busy` µs of the turn with bytes that no other command reports (log 14). A car that has become OFFLINE or
ISOLATED while its turn waited is sent a LOCK setpoint all the same (log 18). Outside a waiting turn, or with
the line not idle in time, no setpoint is sent (log 4). -/
def execSetpointSend (busy : Nat) (s : State) : Host.Outcome State Fault Refusal :=
  .next <|
    match s.link.cycle with
    | some c =>
      match c.phase with
      | .waiting turnAt =>
        let idleFrom := max s.link.lineIdleFrom (turnAt + busy)
        if lineIdleInTime turnAt idleFrom then
          let s := s.runTo (setpointInstant turnAt idleFrom)
          let f := s.composeSetpoint c.current
          (s.setDrive c.current { s.link.drives[c.current] with sequence := f.sequence }).setPhase c
            (.sending s.now f)
        else s
      | .sending _ _ | .window _ _ | .receiving _ _ _ => s
    | none => s

/-- SETPOINT_SENT. At the last bit of the setpoint the line is released and the reply window opens
(R117, R196). With no setpoint on the line nothing happens (log 4). -/
def execSetpointSent (s : State) : Host.Outcome State Fault Refusal :=
  .next <|
    match s.link.cycle with
    | some c =>
      match c.phase with
      | .sending sentAt f =>
        let s := s.runTo (sentAt + setpointTime)
        s.setPhase c (.window s.now f.sequence)
      | .waiting _ | .window _ _ | .receiving _ _ _ => s
    | none => s

/-! ## Receptions (R117, R118) -/

/-- How a transaction ends (R119). -/
inductive TransactionEnd where
  | good (driveState : Byte) (report : DriveReport)
  | corrupt
  | miss
deriving DecidableEq, Repr

/-- The values of a full STATUS reception with a good CRC, good only when the address, the echoed sequence,
the drive state and the fault code are as R118 requires (Table 11-9). -/
def judgeFields (i : CarId) (sequence : Byte) : List Byte → TransactionEnd
  | [address, echo, state, t1, t0, l1, l0, code, c1, c0] =>
    if address.toNat = i.val ∧ echo = sequence ∧ state.toNat ≤ 2 ∧ code.toNat ≤ 15
        ∧ join16 c1 c0 = crc16 [address, echo, state, t1, t0, l1, l0, code] then
      .good state { tilt := (join16 t1 t0).toInt
                    lateral := hold (-9999) 9999 (join16 l1 l0).toInt
                    faultCode := code.toNat }
    else .corrupt
  | _ => .corrupt

/-- A reception judged: its bytes, at most 10, none with a framing error (R117, R118). -/
def judgeReception (i : CarId) (sequence : Byte) (received : List RxByte) : TransactionEnd :=
  if received.any RxByte.framingError then .corrupt
  else judgeFields i sequence (received.map RxByte.value)

/-! ## The health counter, isolation and probing (R120 to R127) -/

/-- The urgent ISOLATED notice: value A 1 for a failed probe, value B 1 for a corrupt reply (R123, R127). -/
def State.postIsolated (s : State) (i : CarId) (probe corrupt : Bool) : State :=
  s.post .isolated (some i) (u16 (bit 0 probe)) (u16 (bit 0 corrupt))

/-- Isolation of a car in service, its counter at 160 (R102, R123). -/
def State.isolate (s : State) (i : CarId) (corrupt : Bool) : State :=
  let s := s.setCar i { s.cars[i] with theta := 0, omega := 0, latchReason := none }
  let s := s.setDrive i { s.link.drives[i] with probing := 0 }
  (((s.setPersistence i 0).enter i .isolated .isolation).postIsolated i false corrupt).settle

/-- A miss or a corrupt reply of a car that is not PROBING (R120, R121, R123). -/
def State.failReply (s : State) (i : CarId) (corrupt : Bool) : State :=
  let d := s.link.drives[i]
  let n := d.health + 6
  if 160 ≤ n then (s.setHealth i 160 d.warned).isolate i corrupt
  else if 40 ≤ n ∧ d.warned = false then
    (s.setHealth i n true).post .healthWarning (some i) (u16 n) 0
  else s.setHealth i n d.warned

/-- A miss or a corrupt reply of a PROBING car (R127, Table 6-4). -/
def State.failProbe (s : State) (i : CarId) (corrupt : Bool) : State :=
  let s := s.setHealth i 160 true
  let s := s.setDrive i { s.link.drives[i] with probing := 0 }
  ((s.enter i .isolated .probeFailed).postIsolated i true corrupt).settle

/-- The counter at a good reply: 1 less, and at 0 the warning latch is cleared (R120, R121). -/
def State.healReply (s : State) (i : CarId) : State :=
  let d := s.link.drives[i]
  let n := d.health - 1
  s.setHealth i n (d.warned && n != 0)

/-- The code of FAULT in a STATUS frame (Table 11-9). -/
def driveFaultCode : Byte := 2

/-- The code of LOCKED in a STATUS frame (Table 11-9). -/
def driveLockedCode : Byte := 1

def State.setDriveFault (s : State) (i : CarId) (b : Bool) : State :=
  s.setCar i { s.cars[i] with driveFault := b }

/-- The DRIVE_FAULT member follows a good reply, `previous` being the fault code of the good reply before
(R124). -/
def State.followFault (s : State) (i : CarId) (state : Byte) (code previous : Nat) : State :=
  if state = driveFaultCode then
    if s.cars[i].driveFault then
      (if code ≠ previous then s.post .driveFault (some i) (u16 code) 1 else s)
    else
      let s := s.setDriveFault i true
      (s.carCause i .driveFault s.unit.settings.driveFaultReaction).post .driveFault (some i) (u16 code) 1
  else if s.cars[i].driveFault then
    (s.setDriveFault i false).post .driveFault (some i) (u16 previous) 0
  else s

/-- The probing count at a good reply of a PROBING car (R127, Table 6-4). -/
def State.countProbe (s : State) (i : CarId) (state : Byte) (tilt : Int) : State :=
  let d := s.link.drives[i]
  if state = driveLockedCode ∧ tilt.natAbs ≤ 50 then
    if 16 ≤ d.probing + 1 then
      (s.setDrive i { d with probing := 0 }).transition i .centred .probePassed
    else s.setDrive i { d with probing := d.probing + 1 }
  else s.setDrive i { d with probing := 0 }

/-- The fault code of the last good reply; 0 when there is none (R124, log 32). -/
def Drive.lastCode (d : Drive) : Nat :=
  match d.lastGood with
  | some r => r.faultCode
  | none => 0

/-- A good reply applied: counter, last good reply, DRIVE_FAULT, Supervisor, probing count, in the order
of R119. -/
def State.applyGood (s : State) (i : CarId) (state : Byte) (r : DriveReport) : State :=
  let probing := s.cars[i].state == .probing
  let previous := s.link.drives[i].lastCode
  let s := s.healReply i
  let s := s.setDrive i { s.link.drives[i] with lastGood := some r }
  let s := s.followFault i state r.faultCode previous
  let s := if state ≠ driveFaultCode ∧ probing = false then s.superviseReply i r else s
  if probing then s.countProbe i state r.tilt else s

/-- An outcome applied to the polled car as it stands; discarded when the car is OFFLINE or ISOLATED
(R119). -/
def State.applyOutcome (s : State) (i : CarId) (o : TransactionEnd) : State :=
  if s.cars[i].state.polled then
    match o with
    | .good state r => s.applyGood i state r
    | .corrupt => if s.cars[i].state = .probing then s.failProbe i true else s.failReply i true
    | .miss => if s.cars[i].state = .probing then s.failProbe i false else s.failReply i false
  else s

/-- The transaction ends with an outcome, and the next turn comes (R119). -/
def State.finish (s : State) (c : PollCycle) (o : TransactionEnd) : State :=
  (s.applyOutcome c.current o).endTransaction c

/-- TURN_WAIT_LIMIT. A turn whose line is not idle within 4,000 µs ends as a miss, without a setpoint
(R115). Outside a waiting turn, or with the line idle in time, nothing happens (log 4). -/
def execTurnWaitLimit (s : State) : Host.Outcome State Fault Refusal :=
  .next <|
    match s.link.cycle with
    | some c =>
      match c.phase with
      | .waiting turnAt =>
        if lineIdleInTime turnAt s.link.lineIdleFrom then s
        else (s.runTo (turnAt + turnWaitLimit)).finish c .miss
      | .sending _ _ | .window _ _ | .receiving _ _ _ => s
    | none => s

/-- REPLY_WINDOW_CLOSE. The window closes with no byte received: a miss; a reception that began in it runs on
(R117). With no window open nothing happens (log 4). -/
def execReplyWindowClose (s : State) : Host.Outcome State Fault Refusal :=
  .next <|
    match s.link.cycle with
    | some c =>
      match c.phase with
      | .window openedAt _ => (s.runTo (openedAt + replyWindow)).finish c .miss
      | .receiving openedAt _ _ => s.runTo (openedAt + replyWindow)
      | .waiting _ | .sending _ _ => s
    | none => s

/-! ## Bytes on the link (R117) -/

/-- A byte has ended on the line now: the idle tests run from here (R115, R117). -/
def State.holdLine (s : State) : State := { s with link := { s.link with lineIdleFrom := s.now } }

/-- The reception of the open transaction holds these bytes now. With as many as a STATUS frame has it ends, is judged,
and has its outcome applied (R117 to R119). -/
def State.takeByte (s : State) (c : PollCycle) (openedAt : Nat) (sequence : Byte) (held : List RxByte) : State :=
  if held.length < statusLength then s.setPhase c (.receiving openedAt sequence held)
  else s.finish c (judgeReception c.current sequence held)

/-- A byte received now, at the end of its stop bit (log 36). In an open window it begins the reception, which runs
on past the window's close; in a reception it joins it; else it is discarded and keeps the line busy. None is received
while the master transmits (R117). -/
def State.hearByte (s : State) (b : RxByte) : State :=
  match s.link.cycle with
  | some c =>
    match c.phase with
    | .window openedAt sequence =>
      if s.now ≤ openedAt + replyWindow then s.holdLine.takeByte c openedAt sequence [b] else s.holdLine
    | .receiving openedAt sequence held => s.holdLine.takeByte c openedAt sequence (held ++ [b])
    | .waiting _ => s.holdLine
    | .sending _ _ => s
  | none => s.holdLine

/-- A reception in progress ends 20 µs after its last byte when `limit` is not before that, is judged, and has its
outcome applied (R117 to R119). A byte whose start bit begins then comes too late by the model's choice (log 36). -/
def State.endIdle (s : State) (limit : Nat) : State :=
  match s.link.cycle with
  | some c =>
    match c.phase with
    | .receiving _ sequence held =>
      let idle := s.link.lineIdleFrom + lineIdleTime
      if idle ≤ limit then (s.runTo idle).finish c (judgeReception c.current sequence held) else s
    | .waiting _ | .sending _ _ | .window _ _ => s
  | none => s

/-- A byte whose stop bit ends `wait` µs from now; its start bit begins 10 µs before that, after a reception whose
line was idle till then has ended (R117, R196). -/
def State.byteAfter (s : State) (wait : Nat) (b : RxByte) : State :=
  let stop := s.now + wait
  ((s.endIdle (stop - actuatorByteTime)).runTo stop).hearByte b

/-- Bytes that come one after another, each after its pause (R117, R196). -/
def State.hearRun (s : State) : List RxByte → State
  | [] => s
  | b :: more => (s.byteAfter (b.pause + actuatorByteTime) b).hearRun more

/-- The time runs on to the end of a reception in progress, 20 µs after its last byte, and the reception ends
(R117). -/
def State.endReception (s : State) : State := s.endIdle (s.link.lineIdleFrom + lineIdleTime)

/-- STATUS_RECEPTION. Bytes come on the actuator link, the first received after `dt` µs, and what each does is done
as it is received; with no byte the line has been idle for 20 µs, which ends a reception in progress (R117 to R119,
log 14). -/
def execStatusReception (dt : Nat) (bytes : List RxByte) (s : State) :
    Host.Outcome State Fault Refusal :=
  .next <|
    match bytes with
    | [] => (s.after dt).endReception
    | first :: more => (s.byteAfter dt first).hearRun more

/-! ## READMIT (R103, R126) -/

/-- READMIT as judged and carried out. A cycle in progress does not address the car (R126). -/
def requestReadmit (car : Byte) (s : State) : Answer :=
  match s.namedCar car with
  | none => .refuse s .badCar
  | some i =>
    if s.cars[i].state ≠ .isolated then .refuse s .notIsolated
    else
      let s := s.setHealth i 0 false
      let s := (s.setDrive i { s.link.drives[i] with probing := 0 }).transition i .probing .readmit
      .done (s.leaveToNextCycle (fun j => j == i))

end Sys2Proof.Machine
end

