-- ==== Sys2Proof/Machine/Modes.lean ====
section
/-! DEFINITION. The Mode and Parameter Unit (chapter 9): SET_MODE, SET_TILT_LAW, SET_TRAIN_SET and RESTART
as judged and carried out. CONFIGURE_TRAIN stands with the channels it makes. -/

namespace Sys2Proof.Machine

/-- SET_MODE RUN (R167, Table 9-5). -/
def requestSetModeRun (s : State) : Answer :=
  match s.unit.mode with
  | .config =>
    if s.unit.settings.carCount = 0 then .refuse s .noTrain
    else if s.odo.positionValid then .done (s.changeMode .run) [BitVec.ofNat 8 Mode.run.code]
    else .refuse s .noPosition
  | .run => .done s [BitVec.ofNat 8 Mode.run.code]
  | .draining => .refuse s .wrongMode

/-- SET_MODE CONFIG: from RUN the drain begins, with the drain test of each TRACKING car and the
completion test (R168). -/
def requestSetModeConfig (s : State) : Answer :=
  match s.unit.mode with
  | .run =>
    let s := (allCars.foldl State.drainCar (s.changeMode .draining)).settle
    .done s [BitVec.ofNat 8 s.unit.mode.code]
  | .config => .done s [BitVec.ofNat 8 Mode.config.code]
  | .draining => .done s [BitVec.ofNat 8 Mode.draining.code]

/-- The law taken within SET_TILT_LAW: in CONFIG by every record, else by those at a quiet point in a
non-tracking state, with a notice for the configured cars (R95). -/
def State.stageCar (s : State) (i : CarId) : State :=
  let c := s.cars[i]
  let resting := c.quiet && c.state != .tracking && c.state != .returning
  if s.unit.mode == .config || resting then
    (if c.state = .offline then s.copyLaw i else s.takeLaw i)
  else s

/-- SET_TILT_LAW (R172). -/
def requestSetTiltLaw (p : LawPayload) (s : State) : Answer :=
  match firstBad (lawChecks p) with
  | some index => .refuse s .outOfRange [BitVec.ofNat 8 index]
  | none =>
    let s := { s with unit := { s.unit with
      stagedLaw := lawOf p, stagedGeneration := s.unit.stagedGeneration + 1 } }
    .done (allCars.foldl State.stageCar s) (bytes16 s.unit.stagedGeneration)

/-- SET_TRAIN_SET; a rise of MATCH_WINDOW empties the mismatch table (R141, R173). -/
def requestSetTrainSet (p : TrainSetPayload) (s : State) : Answer :=
  match firstBad (trainSetChecks p) with
  | some index => .refuse s .outOfRange [BitVec.ofNat 8 index]
  | none =>
    let old := s.unit.trainSet.matchWindow
    let s := { s with unit := { s.unit with trainSet := trainSetOf p } }
    .done (if old < s.unit.trainSet.matchWindow then
      { s with sup := { s.sup with mismatches := [] } } else s)

/-- RESTART, its first part: in CONFIG the request hold is set with the OK reply (R174). -/
def requestRestart (s : State) : Answer :=
  if s.unit.mode ≠ .config then .refuse s .wrongMode
  else .done { s with ctl := { s.ctl with hold := true } }

end Sys2Proof.Machine
end

