-- ==== Sys2Proof/Config.lean ====
section
/-! DEFINITION. What one part's hardware fixes and the document does not state. -/

namespace Sys2Proof.Config

/-- The hardware revision letter that IDENTIFY reports (R184, Table 11-7). The document names the field
and gives no letter: a free value (log 15). -/
opaque revisionLetter : Byte

end Sys2Proof.Config
end

