-- ==== Sys2Proof/Machine/Reports.lean ====
section
/-! DEFINITION. The reports: IDENTIFY, QUERY_TRAIN and QUERY_CAR (R108, R176, R184; Table 11-7). -/

namespace Sys2Proof.Machine

/-- The part code of the NX-T8 (Table 11-7). -/
def partCode : BitVec 16 := 0x7408

/-- IDENTIFY (R184). -/
def requestIdentify (s : State) : Answer :=
  .done s (bytes16 partCode ++ [Config.revisionLetter, BitVec.ofNat 8 s.unit.resetCause.code]
    ++ bytes16 (u16 s.ctl.crcErrors) ++ bytes16 (u16 s.ctl.dropped) ++ bytes16 (u16 s.link.overruns))

/-- QUERY_TRAIN (R176). A commit point that is none is sent as 0 beside its mark (log 37). -/
def requestQueryTrain (s : State) : Answer :=
  .done s ([BitVec.ofNat 8 s.unit.mode.code, BitVec.ofNat 8 s.unit.settings.carCount]
    ++ bytes32 (u32 s.odo.position) ++ bytes32 (u32 s.speed) ++ [s.trainFlags]
    ++ bytes32 (u32 (s.route.commit.getD 0))
    ++ bytes32 (u32 (if s.route.anchored then s.route.endChainage else 0))
    ++ [BitVec.ofNat 8 s.route.ring.length] ++ bytes16 s.unit.stagedGeneration)

/-- The tilt and lateral acceleration of the last good reply, 0 while there is none (R125, Table 11-7). -/
def Drive.measured (d : Drive) : Int × Int :=
  match d.lastGood with
  | some r => (r.tilt, r.lateral)
  | none => (0, 0)

/-- The car report (Table 11-7). -/
def State.carReport (s : State) (i : CarId) : List Byte :=
  let c := s.cars[i]
  let d := s.link.drives[i]
  [BitVec.ofNat 8 c.state.code] ++ bytes16 (s16 (roundCdeg c.theta)) ++ bytes16 (s16 c.omega)
    ++ bytes16 (s16 c.target) ++ [BitVec.ofNat 8 c.reason.code] ++ bytes16 (u16 c.limit)
    ++ bytes16 c.generation ++ [c.causeByte, BitVec.ofNat 8 (latchCode c.latchReason), carMarks c d]
    ++ bytes32 (u32 (c.lastPosition.getD 0)) ++ bytes32 (u32 (c.lastLookAhead.getD 0))
    ++ [BitVec.ofNat 8 d.health] ++ bytes16 (s16 d.measured.1) ++ bytes16 (s16 d.measured.2)
    ++ [BitVec.ofNat 8 s.sup.persistence[i]]

/-- QUERY_CAR (R108). -/
def requestQueryCar (car : Byte) (s : State) : Answer :=
  match s.namedCar car with
  | none => .refuse s .badCar
  | some i => .done s (s.carReport i)

end Sys2Proof.Machine
end

