-- ==== Sys2Proof/Machine/Requests.lean ====
section
/-! DEFINITION. Requests and replies (section 10.2): the inbound FIFO, the taking of a request, and the
commands that are requests. A request command is that request reaching the inbound FIFO: it is taken at
once when R182 lets it, and otherwise waits, or is dropped, as its frame (log 5). -/

namespace Sys2Proof.Machine

/-- What a request of the table comes to when it is taken, with its KIND and TAG; none for a command that
is no request. -/
def requestMeaning : Instr → Option (Byte × Byte × (State → Answer))
  | .identify tag => some (0x01, tag, requestIdentify)
  | .configureTrain tag p => some (0x02, tag, requestConfigureTrain p)
  | .setTiltLaw tag p => some (0x03, tag, requestSetTiltLaw p)
  | .setTrainSet tag p => some (0x04, tag, requestSetTrainSet p)
  | .setModeRun tag => some (0x05, tag, requestSetModeRun)
  | .setModeConfig tag => some (0x05, tag, requestSetModeConfig)
  | .setPosition tag chainage => some (0x06, tag, requestSetPosition chainage)
  | .positionFix tag n surveyed => some (0x07, tag, requestPositionFix n surveyed)
  | .routeAppend tag anchor records => some (0x08, tag, requestRouteAppend anchor records)
  | .routeTruncate tag x => some (0x09, tag, requestRouteTruncate x)
  | .routeClear tag => some (0x0A, tag, requestRouteClear)
  | .routeConfirm tag => some (0x0B, tag, requestRouteConfirm)
  | .resume tag car => some (0x0C, tag, requestResume car)
  | .resumeAll tag => some (0x0C, tag, requestResumeAll)
  | .readmit tag car => some (0x0D, tag, requestReadmit car)
  | .queryTrain tag => some (0x0E, tag, requestQueryTrain)
  | .queryCar tag car => some (0x0F, tag, requestQueryCar car)
  | .queryRoute tag index => some (0x10, tag, requestQueryRoute index)
  | .restart tag => some (0x11, tag, requestRestart)
  | _ => none

/-- Taking a frame as a request, one event: it is judged, carried out or refused, and its one reply is
placed in the reply queue (R182, R183). A KIND that names no request is UNKNOWN_REQUEST. -/
def State.takeFrame (s : State) (f : Frame) : State :=
  match decodeRequest f with
  | .badLength => answerRequest f.kind f.tag (.refuse s .badLength)
  | .badMode => answerRequest f.kind f.tag (.refuse s .outOfRange)
  | .request i =>
    match requestMeaning i with
    | some (kind, tag, m) => answerRequest kind tag (m s)
    | none => answerRequest f.kind f.tag (.refuse s .unknownRequest)

/-- A request can be taken: fewer than 4 replies, and the request hold clear (R182). -/
def State.canTake (s : State) : Bool := s.ctl.replies.length < 4 && !s.ctl.hold

/-- Frames taken one after another from the FIFO while R182 lets them, at most `n`. -/
def serveFrames : Nat → State → State
  | 0, s => s
  | n + 1, s =>
    match s.ctl.fifo with
    | [] => s
    | f :: rest =>
      if s.canTake then
        serveFrames n (({ s with ctl := { s.ctl with fifo := rest } }).takeFrame f)
      else s

/-- The test of R182: the FIFO never holds more than the frames it holds now. -/
def State.serve (s : State) : State := serveFrames s.ctl.fifo.length s

/-- A valid frame at the FIFO: it joins the tail, or, with 4 there, is dropped, counted and reported in a
LINK_OVERRUN notice (R181). -/
def State.joinFifo (s : State) (f : Frame) : State :=
  if s.ctl.fifo.length < 4 then { s with ctl := { s.ctl with fifo := s.ctl.fifo ++ [f] } }
  else
    ({ s with ctl := { s.ctl with dropped := bump s.ctl.dropped } }).post .linkOverrun none
      (f.kind.setWidth 16) (f.tag.setWidth 16)

/-- A request command: taken when nothing waits before it and R182 lets it; otherwise its frame goes to the
FIFO (R181, R182, log 5). -/
def State.offer (s : State) (frame : Frame) (kind tag : Byte) (m : State → Answer) : State :=
  if s.ctl.fifo = [] ∧ s.canTake then answerRequest kind tag (m s) else (s.joinFifo frame).serve

/-- UNKNOWN_REQUEST: a frame with this KIND, TAG and payload, refused when the KIND names no request
(R183). -/
def execUnknownRequest (kind tag : Byte) (payload : List Byte) (s : State) :
    Host.Outcome State Fault Refusal :=
  .next <|
    if s.ctl.fifo = [] ∧ s.canTake then s.takeFrame ⟨kind, tag, payload⟩
    else (s.joinFifo ⟨kind, tag, payload⟩).serve

/-- IDENTIFY (R184). -/
def execIdentify (tag : Byte) (s : State) : Host.Outcome State Fault Refusal :=
  .next (s.offer ⟨0x01, tag, []⟩ 0x01 tag requestIdentify)

/-- CONFIGURE_TRAIN (R171). -/
def execConfigureTrain (tag : Byte) (p : TrainPayload) (s : State) : Host.Outcome State Fault Refusal :=
  .next (s.offer ⟨0x02, tag, p.bytes⟩ 0x02 tag (requestConfigureTrain p))

/-- SET_TILT_LAW (R172). -/
def execSetTiltLaw (tag : Byte) (p : LawPayload) (s : State) : Host.Outcome State Fault Refusal :=
  .next (s.offer ⟨0x03, tag, p.bytes⟩ 0x03 tag (requestSetTiltLaw p))

/-- SET_TRAIN_SET (R173). -/
def execSetTrainSet (tag : Byte) (p : TrainSetPayload) (s : State) : Host.Outcome State Fault Refusal :=
  .next (s.offer ⟨0x04, tag, p.bytes⟩ 0x04 tag (requestSetTrainSet p))

/-- SET_MODE RUN (R167). -/
def execSetModeRun (tag : Byte) (s : State) : Host.Outcome State Fault Refusal :=
  .next (s.offer ⟨0x05, tag, [1]⟩ 0x05 tag requestSetModeRun)

/-- SET_MODE CONFIG (R168). -/
def execSetModeConfig (tag : Byte) (s : State) : Host.Outcome State Fault Refusal :=
  .next (s.offer ⟨0x05, tag, [0]⟩ 0x05 tag requestSetModeConfig)

/-- SET_POSITION (R15). -/
def execSetPosition (tag : Byte) (chainage : BitVec 32) (s : State) : Host.Outcome State Fault Refusal :=
  .next (s.offer ⟨0x06, tag, bytes32 chainage⟩ 0x06 tag (requestSetPosition chainage))

/-- POSITION_FIX (R16 to R18). -/
def execPositionFix (tag sequence : Byte) (surveyed : BitVec 32) (s : State) :
    Host.Outcome State Fault Refusal :=
  .next (s.offer ⟨0x07, tag, sequence :: bytes32 surveyed⟩ 0x07 tag (requestPositionFix sequence surveyed))

/-- ROUTE_APPEND (R25 to R27). -/
def execRouteAppend (tag : Byte) (anchor : BitVec 32) (records : List SegmentPayload) (s : State) :
    Host.Outcome State Fault Refusal :=
  .next (s.offer ⟨0x08, tag, bytes32 anchor ++ records.flatMap SegmentPayload.bytes⟩ 0x08 tag
    (requestRouteAppend anchor records))

/-- ROUTE_TRUNCATE (R36, R37). -/
def execRouteTruncate (tag : Byte) (x : BitVec 32) (s : State) : Host.Outcome State Fault Refusal :=
  .next (s.offer ⟨0x09, tag, bytes32 x⟩ 0x09 tag (requestRouteTruncate x))

/-- ROUTE_CLEAR (R39). -/
def execRouteClear (tag : Byte) (s : State) : Host.Outcome State Fault Refusal :=
  .next (s.offer ⟨0x0A, tag, []⟩ 0x0A tag requestRouteClear)

/-- ROUTE_CONFIRM (R40). -/
def execRouteConfirm (tag : Byte) (s : State) : Host.Outcome State Fault Refusal :=
  .next (s.offer ⟨0x0B, tag, []⟩ 0x0B tag requestRouteConfirm)

/-- RESUME (R104). -/
def execResume (tag car : Byte) (s : State) : Host.Outcome State Fault Refusal :=
  .next (s.offer ⟨0x0C, tag, [car]⟩ 0x0C tag (requestResume car))

/-- RESUME with index 0xFF (R105). -/
def execResumeAll (tag : Byte) (s : State) : Host.Outcome State Fault Refusal :=
  .next (s.offer ⟨0x0C, tag, [0xFF]⟩ 0x0C tag requestResumeAll)

/-- READMIT (R126). -/
def execReadmit (tag car : Byte) (s : State) : Host.Outcome State Fault Refusal :=
  .next (s.offer ⟨0x0D, tag, [car]⟩ 0x0D tag (requestReadmit car))

/-- QUERY_TRAIN (R176). -/
def execQueryTrain (tag : Byte) (s : State) : Host.Outcome State Fault Refusal :=
  .next (s.offer ⟨0x0E, tag, []⟩ 0x0E tag requestQueryTrain)

/-- QUERY_CAR (R108). -/
def execQueryCar (tag car : Byte) (s : State) : Host.Outcome State Fault Refusal :=
  .next (s.offer ⟨0x0F, tag, [car]⟩ 0x0F tag (requestQueryCar car))

/-- QUERY_ROUTE (R47). -/
def execQueryRoute (tag index : Byte) (s : State) : Host.Outcome State Fault Refusal :=
  .next (s.offer ⟨0x10, tag, [index]⟩ 0x10 tag (requestQueryRoute index))

/-- RESTART (R174). -/
def execRestart (tag : Byte) (s : State) : Host.Outcome State Fault Refusal :=
  .next (s.offer ⟨0x11, tag, []⟩ 0x11 tag requestRestart)

end Sys2Proof.Machine
end

