-- ==== Sys2Proof/Machine/Start.lean ====
section
/-! DEFINITION. The two starts of the module: the hardware reset (R20, R48, R69, R111, R129, R148, R164,
R175, R177, R192) and the RESTART (R21, R49, R69, R112, R130, R149, R165, R178, R193), and the STARTED
notice of both (R191). -/

namespace Sys2Proof.Machine

/-- The STARTED notice with the reset cause (R191). -/
def State.postStarted (s : State) : State := s.post .started none (u16 s.unit.resetCause.code) 0

/-- HARDWARE_RESET. Every block takes its hardware-reset state, the cause is POWER_ON when the supply came
up during the reset and RESET_LINE otherwise, and STARTED is posted (R175, R191). The queue of commands
is not the module's and stays (log 25). -/
def execHardwareReset (supplyCameUp : Bool) (s : State) : Host.Outcome State Fault Refusal :=
  .next ({ State.blank (if supplyCameUp then .powerOn else .resetLine) with
    pending := s.pending }).postStarted

/-- The state after a RESTART (Table 5-12); a car cannot be TRACKING or RETURNING in CONFIG (log 21). -/
def restartState : CarState → CarState
  | .centred | .latched | .tracking | .returning => .centred
  | .isolated | .probing => .isolated
  | .offline => .offline

/-- A configured record after a RESTART, its counter being the one the master keeps (R112). -/
def CarChannel.restart (c : CarChannel) (health tiltMax : Nat) : CarChannel :=
  { c with
    state := restartState c.state, theta := 0, omega := 0, target := 0, reason := .forcedZero,
    limit := tiltMax, law := defaultLaw, generation := 0, driveFault := false, supervision := false,
    healthReduce := 80 ≤ health, latchReason := none, lastPosition := none, lastLookAhead := none }

/-- What the master keeps for a car through a RESTART: a PROBING car's counter goes to 160 with the warning
latch set (R130). -/
def Drive.restart (d : Drive) (wasProbing : Bool) : Drive :=
  if wasProbing then { d with health := 160, warned := true, probing := 0 } else { d with probing := 0 }

/-- One car through a RESTART; an OFFLINE record only takes the default law (R112). -/
def State.restartCar (s : State) (i : CarId) : State :=
  let c := s.cars[i]
  let d := s.link.drives[i].restart (c.state == .probing)
  let c' := if c.state = .offline then { c with law := defaultLaw, generation := 0 }
    else c.restart d.health s.unit.settings.tiltMax
  (s.setDrive i d).setCar i c'

/-- The restart itself, at the last bit of the RESTART reply (R174): each block takes its RESTART state,
the queues are emptied, and STARTED is posted with cause RESTART. -/
def State.restart (s : State) : State :=
  let s := allCars.foldl State.restartCar s
  ({ s with
      route := .reset
      gateOpen := false
      sup := .reset
      mon := { s.mon with linkSilent := false }
      unit := { s.unit with
        mode := .config, stagedLaw := defaultLaw, stagedGeneration := 0, trainSet := defaultTrainSet,
        resetCause := .restart }
      ctl := { ControlLink.reset with
        rxLast := s.ctl.rxLast, crcErrors := s.ctl.crcErrors, dropped := s.ctl.dropped } }).postStarted

end Sys2Proof.Machine
end

