-- ==== Sys2Proof/Machine/ControlLink.lean ====
section
/-! DEFINITION. The two ends of the control link (chapter 10): the receiver with its rescans and gaps, the
end of a transmitted reply or batch, and the timers of the notice queue. -/

namespace Sys2Proof.Machine

/-! ## The receiver (R179, R180) -/

/-- What the receiver finds while it examines bytes: a valid frame, or a frame discarded and counted. -/
inductive Found where
  | frame (f : Frame)
  | discard
deriving DecidableEq, Repr

/-- The bytes of a complete frame whose SYNC has been taken off: valid when the CRC over LEN through the
payload is the one received (R179). -/
def checkFrame (body : List Byte) : Found :=
  match body with
  | len :: kind :: tag :: rest =>
    let payload := rest.take len.toNat
    if rest.drop len.toNat = bytes16 (crc16 (len :: kind :: tag :: payload)) then
      .frame { kind := kind, tag := tag, payload := payload }
    else .discard
  | _ => .discard

/-- The receiver over the bytes it has, from a hunting start: what it finds, in order, and the bytes of the
frame still in gathering. `skip` bytes belong to a valid frame already found. A LEN over 120 discards the
frame and hunting resumes with the LEN byte; a bad CRC discards it and hunting resumes with the byte
after the failed SYNC (R180). -/
def scan : Nat → List Byte → List Found × List Byte
  | _, [] => ([], [])
  | skip + 1, _ :: rest => scan skip rest
  | 0, b :: rest =>
    if b ≠ syncByte then scan 0 rest
    else match rest with
      | [] => ([], [b])
      | len :: more =>
        if 120 < len.toNat then
          let r := scan 0 (len :: more)
          (.discard :: r.1, r.2)
        else if (len :: more).length < len.toNat + 5 then ([], b :: len :: more)
        else match checkFrame ((len :: more).take (len.toNat + 5)) with
          | .frame f =>
            let r := scan (len.toNat + 5) (len :: more)
            (.frame f :: r.1, r.2)
          | .discard =>
            let r := scan 0 (len :: more)
            (.discard :: r.1, r.2)

/-- A discarded frame is counted (R180). -/
def State.countDiscard (s : State) : State :=
  { s with ctl := { s.ctl with crcErrors := bump s.ctl.crcErrors } }

/-- A valid frame: handed to the FIFO, told to the Monitor, and taken when R182 lets it (R157, R179, R181,
R182, log 11). -/
def State.validFrame (s : State) (f : Frame) : State := ((s.joinFifo f).heardFrame).serve

/-- What the receiver found, handled in order. -/
def State.handle (s : State) : Found → State
  | .frame f => s.validFrame f
  | .discard => s.countDiscard

/-- A gap of more than 2 ms while gathering discards the frame, uncounted bytes and all, and counts it
(R180). -/
def State.closeGap (s : State) : State :=
  if s.ctl.rxBuffer ≠ [] ∧ s.ctl.rxLast + gapTime < s.now then
    ({ s with ctl := { s.ctl with rxBuffer := [] } }).countDiscard
  else s

/-- A byte arrives now: a gap it ends is closed (log 8), and the receiver examines it after the bytes
gathered so far (R179, R180). -/
def State.receiveByte (s : State) (b : Byte) : State :=
  let s := s.closeGap
  let r := scan 0 (s.ctl.rxBuffer ++ [b])
  r.1.foldl State.handle { s with ctl := { s.ctl with rxBuffer := r.2, rxLast := s.now } }

/-- Bytes that arrive without pause, the `k`-th of them `controlBytesTime k` after `start`. -/
def receiveBytes (start : Nat) : Nat → List Byte → State → State
  | _, [], s => s
  | k, b :: rest, s =>
    receiveBytes start (k + 1) rest ((s.runTo (start + controlBytesTime k)).receiveByte b)

/-- CONTROL_FRAME_RECEIVED. The bytes of a frame arrive on the control link; a complete one is checked by
its CRC, and a valid one is handed on (R179). -/
def execControlFrameReceived (dt : Nat) (bytes : List Byte) (s : State) :
    Host.Outcome State Fault Refusal :=
  let s := s.after dt
  .next (receiveBytes s.now 0 bytes s)

/-- CONTROL_LINK_BYTE_RECEIVED. A byte is examined by the receiver (R179, R180). -/
def execControlLinkByteReceived (dt : Nat) (byte : Byte) (s : State) :
    Host.Outcome State Fault Refusal :=
  .next ((s.after dt).receiveByte byte)

/-- FRAME_GAP_TIMEOUT. More than 2 ms after a byte of a frame in gathering, the frame is discarded and
counted (R180, log 8). While hunting a gap discards nothing (R180). -/
def execFrameGapTimeout (s : State) : Host.Outcome State Fault Refusal :=
  .next <|
    if s.ctl.rxBuffer ≠ [] then (s.runTo (s.ctl.rxLast + gapTime + 1)).closeGap else s

/-! ## The transmitter (R185, R189) -/

/-- The frame on the line has ended: the transmitter becomes idle and chooses again (R185). -/
def State.freeTransmitter (s : State) : State :=
  ({ s with ctl := { s.ctl with transmitter := .idle } }).chooseFrame

/-- A reply is the OK reply of a RESTART (R174). -/
def Reply.isRestart (r : Reply) : Bool := r.kind == 0x91 && r.status == .ok

/-- REPLY_SENT. At the last bit of a reply it leaves the reply queue; the RESTART reply carries the restart
out before anything else (R174); otherwise the FIFO is tested for the next request, and the transmitter
chooses its next frame (R182, R185, log 23). With no reply on the line nothing happens (log 4). -/
def execReplySent (s : State) : Host.Outcome State Fault Refusal :=
  .next <|
    match s.ctl.transmitter, s.ctl.replies with
    | .sendingReply since, r :: rest =>
      let s := s.runTo (since + controlBytesTime r.bytes.length)
      let s := { s with ctl := { s.ctl with replies := rest } }
      if s.ctl.hold && r.isRestart then s.restart else s.serve.freeTransmitter
    | _, _ => s

/-- BATCH_SENT. At the last bit of a batch the slot empties, the formation test is made, and the
transmitter chooses (R185, R189). With no batch on the line nothing happens (log 4). -/
def execBatchSent (s : State) : Host.Outcome State Fault Refusal :=
  .next <|
    match s.ctl.transmitter, s.ctl.slot with
    | .sendingBatch since, some b =>
      let s := s.runTo (since + controlBytesTime b.bytes.length)
      (({ s with ctl := { s.ctl with slot := none } }).formationTest).freeTransmitter
    | _, _ => s

/-! ## The timers of the notice queue (R187) -/

/-- QUIET_TIMER_EXPIRY. The timer stops, the mark is set, and the formation test is made (R187). A stopped
timer does not expire (log 4). -/
def execQuietTimerExpiry (s : State) : Host.Outcome State Fault Refusal :=
  .next <|
    match s.ctl.quiet with
    | some t =>
      let s := s.runTo t
      ({ s with ctl := { s.ctl with quiet := none, expiryMark := true } }).formationTest
    | none => s

/-- ABSOLUTE_TIMER_EXPIRY. The timer stops, the mark is set, and the formation test is made (R187). A
stopped timer does not expire (log 4). -/
def execAbsoluteTimerExpiry (s : State) : Host.Outcome State Fault Refusal :=
  .next <|
    match s.ctl.absolute with
    | some t =>
      let s := s.runTo t
      ({ s with ctl := { s.ctl with absolute := none, expiryMark := true } }).formationTest
    | none => s

end Sys2Proof.Machine
end

