-- ==== Sys2Proof/Machine/Dispatch.lean ====
section
/-! DEFINITION. The effect of each command: one arm for each row of spec/opcode_table.json. -/

namespace Sys2Proof.Machine

/-- The command's effect on everything but the queue of commands. -/
def exec (i : Instr) (s : State) : Host.Outcome State Fault Refusal :=
  match i with
  | .hardwareReset supplyCameUp => Sys2Proof.Machine.execHardwareReset supplyCameUp s
  | .tachoPulse dt ch fell held => Sys2Proof.Machine.execTachoPulse dt ch fell held s
  | .tachoStall ch => Sys2Proof.Machine.execTachoStall ch s
  | .comparisonWindow => Sys2Proof.Machine.execComparisonWindow s
  | .markerPulse dt samples => Sys2Proof.Machine.execMarkerPulse dt samples s
  | .inhibitSet dt highs => Sys2Proof.Machine.execInhibitSet dt highs s
  | .inhibitClear dt lows => Sys2Proof.Machine.execInhibitClear dt lows s
  | .clockWindow dt periods => Sys2Proof.Machine.execClockWindow dt periods s
  | .linkSilentOnset => Sys2Proof.Machine.execLinkSilentOnset s
  | .controlFrame => Sys2Proof.Machine.execControlFrame s
  | .pollCycleExpiry => Sys2Proof.Machine.execPollCycleExpiry s
  | .setpointSend busy => Sys2Proof.Machine.execSetpointSend busy s
  | .setpointSent => Sys2Proof.Machine.execSetpointSent s
  | .turnWaitLimit => Sys2Proof.Machine.execTurnWaitLimit s
  | .replyWindowClose => Sys2Proof.Machine.execReplyWindowClose s
  | .statusReception dt bytes => Sys2Proof.Machine.execStatusReception dt bytes s
  | .controlFrameReceived dt bytes => Sys2Proof.Machine.execControlFrameReceived dt bytes s
  | .frameGapTimeout => Sys2Proof.Machine.execFrameGapTimeout s
  | .unknownRequest kind tag payload => Sys2Proof.Machine.execUnknownRequest kind tag payload s
  | .identify tag => Sys2Proof.Machine.execIdentify tag s
  | .configureTrain tag p => Sys2Proof.Machine.execConfigureTrain tag p s
  | .setTiltLaw tag p => Sys2Proof.Machine.execSetTiltLaw tag p s
  | .setTrainSet tag p => Sys2Proof.Machine.execSetTrainSet tag p s
  | .setModeRun tag => Sys2Proof.Machine.execSetModeRun tag s
  | .setModeConfig tag => Sys2Proof.Machine.execSetModeConfig tag s
  | .setPosition tag chainage => Sys2Proof.Machine.execSetPosition tag chainage s
  | .positionFix tag sequence surveyed => Sys2Proof.Machine.execPositionFix tag sequence surveyed s
  | .routeAppend tag anchor records => Sys2Proof.Machine.execRouteAppend tag anchor records s
  | .routeTruncate tag x => Sys2Proof.Machine.execRouteTruncate tag x s
  | .routeClear tag => Sys2Proof.Machine.execRouteClear tag s
  | .routeConfirm tag => Sys2Proof.Machine.execRouteConfirm tag s
  | .resume tag car => Sys2Proof.Machine.execResume tag car s
  | .resumeAll tag => Sys2Proof.Machine.execResumeAll tag s
  | .readmit tag car => Sys2Proof.Machine.execReadmit tag car s
  | .queryTrain tag => Sys2Proof.Machine.execQueryTrain tag s
  | .queryCar tag car => Sys2Proof.Machine.execQueryCar tag car s
  | .queryRoute tag index => Sys2Proof.Machine.execQueryRoute tag index s
  | .restart tag => Sys2Proof.Machine.execRestart tag s
  | .replySent => Sys2Proof.Machine.execReplySent s
  | .batchSent => Sys2Proof.Machine.execBatchSent s
  | .quietTimerExpiry => Sys2Proof.Machine.execQuietTimerExpiry s
  | .absoluteTimerExpiry => Sys2Proof.Machine.execAbsoluteTimerExpiry s
  | .controlLinkByteReceived dt byte => Sys2Proof.Machine.execControlLinkByteReceived dt byte s

end Sys2Proof.Machine
end

