-- ==== Sys2Proof/Machine/Idle.lean ====
section
/-! DEFINITION. What happens when no command waits: the timer that expires next, if its time has come, else
1 µs of the time base (log 2). -/

namespace Sys2Proof.Machine

/-- A timer of the module as it runs now: the time of its expiry and the command that reports it. -/
structure Timer where
  due : Nat
  command : Instr
deriving DecidableEq, Repr

/-- The timer of an event whose time may be absent. -/
def timerAt (due : Option Nat) (command : Instr) : List Timer :=
  match due with
  | some t => [⟨t, command⟩]
  | none => []

/-- The stall of a channel (R4, log 7). -/
def State.stallDue (s : State) (ch : Tacho) : Option Nat := (s.tacho ch).last.map stallInstant

/-- The next moment of the open transaction: the setpoint of a turn, or its limit when the line is not idle in
time, the end of the setpoint, the close of the reply window, or the end of a reception by an idle line (R115 to R117). -/
def PollCycle.timer (c : PollCycle) (lineIdleFrom : Nat) : Timer :=
  match c.phase with
  | .waiting turnAt =>
    if lineIdleInTime turnAt lineIdleFrom then ⟨setpointInstant turnAt lineIdleFrom, .setpointSend 0⟩
    else ⟨turnAt + turnWaitLimit, .turnWaitLimit⟩
  | .sending sentAt _ => ⟨sentAt + setpointTime, .setpointSent⟩
  | .window openedAt _ => ⟨openedAt + replyWindow, .replyWindowClose⟩
  | .receiving _ _ _ => ⟨lineIdleFrom + lineIdleTime, .statusReception 0 []⟩

/-- The silence timer, while its reaching SILENCE_TIME sets LINK_SILENT (R158). -/
def State.silenceDue (s : State) : Option Nat :=
  if s.unit.mode ≠ .config ∧ s.mon.linkSilent = false then
    some (s.mon.silenceFrom + s.unit.settings.silenceTime * 1000)
  else none

/-- The gap after the last byte of a frame in gathering (R180). -/
def State.gapDue (s : State) : Option Nat :=
  if s.ctl.rxBuffer ≠ [] then some (s.ctl.rxLast + gapTime + 1) else none

/-- The end of the frame on the control link (R185, log 9). -/
def State.frameEnd (s : State) : List Timer :=
  match s.ctl.transmitter, s.ctl.replies, s.ctl.slot with
  | .sendingReply since, r :: _, _ => [⟨since + controlBytesTime r.bytes.length, .replySent⟩]
  | .sendingBatch since, _, some b => [⟨since + controlBytesTime b.bytes.length, .batchSent⟩]
  | _, _, _ => []

/-- Every timer that runs now. -/
def State.timers (s : State) : List Timer :=
  [⟨s.frameStart + framePeriod, .controlFrame⟩, ⟨s.link.pollStart + pollPeriod, .pollCycleExpiry⟩,
   ⟨s.odo.windowStart + windowPeriod, .comparisonWindow⟩]
    ++ timerAt (s.stallDue .a) (.tachoStall .a) ++ timerAt (s.stallDue .b) (.tachoStall .b)
    ++ (match s.link.cycle with | some c => [c.timer s.link.lineIdleFrom] | none => [])
    ++ timerAt s.silenceDue .linkSilentOnset ++ timerAt s.gapDue .frameGapTimeout ++ s.frameEnd
    ++ timerAt s.ctl.quiet .quietTimerExpiry ++ timerAt s.ctl.absolute .absoluteTimerExpiry

/-- The earliest timer of a list, the first listed of those that fall together (log 3). -/
def earliest : List Timer → Option Timer
  | [] => none
  | t :: rest =>
    match earliest rest with
    | none => some t
    | some u => if u.due < t.due then some u else some t

/-- The command of the earliest timer, when its time has come. -/
def State.dueCommand (s : State) : Option Instr :=
  match earliest s.timers with
  | some t => if t.due ≤ s.now then some t.command else none
  | none => none

end Sys2Proof.Machine
end

