-- ==== Sys2Proof/Safety.lean ====
section
/-! DEFINITION. What counts as a sound state of each block: the relations the document states between the
items of State, the ranges of what requests carry, and the notices that are posted and not yet delivered. -/

namespace Sys2Proof

/-! ## What requests carry -/

/-- A record of an append that starts at a chainage is in range (R26). -/
structure SegmentPayload.InRange (r : SegmentPayload) (start : Nat) : Prop where
  length : 100 ≤ r.length.toNat ∧ r.length.toNat ≤ 2000000
  curvature : r.cStart.toInt.natAbs ≤ 20000 ∧ r.cEnd.toInt.natAbs ≤ 20000
  cant : r.hStart.toInt.natAbs ≤ 200 ∧ r.hEnd.toInt.natAbs ≤ 200
  exempt : r.exempt = 0 ∨ r.exempt = 1
  cap : ∀ c, r.cap = some c → c.toNat ≤ 1000
  stop : start + r.length.toNat ≤ 4294967295

/-- The offset of car `j`, examined when the car is of the train, follows that of car `i` (Table 9-2). -/
def TrainPayload.Follows (p : TrainPayload) (i j : CarId) : Prop :=
  j.val < p.carCount.toNat → p.offsets[i].toNat < p.offsets[j].toNat ∧ p.offsets[j].toNat ≤ 50000

/-- The field of an index is in range (Table 9-2): offset 0 is 0, and a later one of the train is greater than the
one before and at most 50,000. -/
def TrainPayload.FieldGood (p : TrainPayload) : Nat → Prop
  | 0 => 1 ≤ p.carCount.toNat ∧ p.carCount.toNat ≤ 8
  | 1 => p.offsets[0].toNat = 0
  | 2 => p.Follows 0 1
  | 3 => p.Follows 1 2
  | 4 => p.Follows 2 3
  | 5 => p.Follows 3 4
  | 6 => p.Follows 4 5
  | 7 => p.Follows 5 6
  | 8 => p.Follows 6 7
  | 9 => 1000 ≤ p.dppA.toNat ∧ p.dppA.toNat ≤ 50000
  | 10 => 1000 ≤ p.dppB.toNat ∧ p.dppB.toNat ≤ 50000
  | 11 => 2 ≤ p.odoLimit.toNat ∧ p.odoLimit.toNat ≤ 20
  | 12 => 100 ≤ p.tiltMax.toNat ∧ p.tiltMax.toNat ≤ 1000
  | 13 => p.fixWindow.toNat ≤ 5000
  | 14 => 100 ≤ p.silenceTime.toNat ∧ p.silenceTime.toNat ≤ 5000
  | 15 => p.silenceReaction.toNat ≤ 1
  | 16 => p.driveFaultReaction.toNat ≤ 1
  | 17 => p.supervisionReaction.toNat ≤ 1
  | 18 => 1 ≤ p.noticeThreshold.toNat ∧ p.noticeThreshold.toNat ≤ 8
  | 19 => 10 ≤ p.quietTime.toNat ∧ p.quietTime.toNat ≤ 1000
  | 20 => 20 ≤ p.absoluteTime.toNat ∧ p.absoluteTime.toNat ≤ 5000
  | _ => True

/-- The field of an index is in range (Table 9-3, R172). -/
def LawPayload.FieldGood (p : LawPayload) : Nat → Prop
  | 0 => p.k.toNat ≤ 1000
  | 1 => p.deadBand.toNat ≤ 2000
  | 2 => p.leadTime.toNat ≤ 3000
  | 3 => p.tiltDegraded.toNat ≤ 1000
  | 4 => 50 ≤ p.omegaMax.toNat ∧ p.omegaMax.toNat ≤ 800
  | 5 => 50 ≤ p.accel.toNat ∧ p.accel.toNat ≤ 4000 ∧ 50 ∣ p.accel.toNat
  | _ => True

/-- The field of an index is in range (Table 9-4). -/
def TrainSetPayload.FieldGood (p : TrainSetPayload) : Nat → Prop
  | 0 => p.vMin.toNat ≤ 50000
  | 1 => 500 ≤ p.supThreshold.toNat ∧ p.supThreshold.toNat ≤ 4000
  | 2 => 2 ≤ p.supCount.toNat ∧ p.supCount.toNat ≤ 16
  | 3 => p.blankDist.toNat ≤ 10000
  | 4 => 500 ≤ p.matchWindow.toNat ∧ p.matchWindow.toNat ≤ 10000
  | 5 => 10000 ≤ p.lowWater.toNat ∧ p.lowWater.toNat ≤ 1000000
  | _ => True

end Sys2Proof

namespace Sys2Proof.Machine

/-! ## What the train computer has still to receive -/

/-- The notices posted and not yet delivered, oldest first: those of the batch in the slot, then the queue
(R188, R189). Forming a batch moves notices within this list and changes nothing of it. -/
def ControlLink.undelivered (c : ControlLink) : List Notice :=
  (match c.slot with | some b => b.notices | none => []) ++ c.notices

def State.undelivered (s : State) : List Notice := s.ctl.undelivered

/-- The notices counted as lost of which no batch has yet told the train computer (R186, R188). -/
def ControlLink.unreported (c : ControlLink) : Nat :=
  (match c.slot with | some b => b.lost | none => 0) + c.lost

/-- What an event that forms the replies `rs` and posts the notices `ns`, in this order, makes of the
control link interface: the replies join the reply queue; the notices are added to what is undelivered, when
the queue has room for them all; and nothing else changes but what R185 to R188 make of them. -/
structure ControlLink.Reports (c d : ControlLink) (rs : List Reply) (ns : List Notice) : Prop where
  receiver : d.rxBuffer = c.rxBuffer ∧ d.rxLast = c.rxLast
  requests : d.fifo = c.fifo ∧ d.hold = c.hold
  counts : d.crcErrors = c.crcErrors ∧ d.dropped = c.dropped
  replies : d.replies = c.replies ++ rs
  notices : c.notices.length + ns.length ≤ 32 →
    d.undelivered = c.undelivered ++ ns ∧ d.unreported = c.unreported
  grows : d.notices.length ≤ c.notices.length + ns.length
  slot : ∀ b, c.slot = some b → d.slot = some b
  line : c.transmitter ≠ .idle → d.transmitter = c.transmitter
  quiet : ns = [] → d.notices = c.notices ∧ d.slot = c.slot ∧ d.lost = c.lost ∧ d.quiet = c.quiet
    ∧ d.absolute = c.absolute ∧ d.expiryMark = c.expiryMark ∧ d.batchSequence = c.batchSequence

/-- A reply placed in the reply queue: an idle transmitter takes it at once (R182, R185). -/
def State.replied (s : State) (r : Reply) : State :=
  { s with ctl := { s.ctl with
      replies := s.ctl.replies ++ [r]
      transmitter := match s.ctl.transmitter with
        | .idle => .sendingReply s.now
        | .sendingReply t => .sendingReply t
        | .sendingBatch t => .sendingBatch t } }

/-- A notice that names a car, or none, with the train position as it stands. -/
def State.notice (s : State) (kind : NoticeKind) (car : Option CarId) (a b : BitVec 16) : Notice :=
  { kind := kind, car := car, position := s.odo.position, valueA := a, valueB := b }

/-- A CAR_STATE notice (Table 5-6, R109). -/
def State.carNotice (s : State) (i : CarId) (st : CarState) (cause : CarCause) : Notice :=
  s.notice .carState (some i) (u16 st.code) (u16 cause.code)

/-- A MODE notice: the new mode and the one before it (R166). -/
def State.modeNotice (s : State) (new old : Mode) : Notice := s.notice .mode none (u16 new.code) (u16 old.code)

/-- A request can be taken as it arrives: nothing waits before it, a reply slot is free, and the request
hold is clear (R182). -/
def State.ready (s : State) : Prop := s.ctl.fifo = [] ∧ s.ctl.replies.length < 4 ∧ s.ctl.hold = false

/-! ## What events make of a car's record -/

/-- A record in a state to which a target of 0 is forced (Table 5-1). -/
def CarChannel.into (c : CarChannel) (st : CarState) : CarChannel :=
  { c with state := st, target := 0, reason := .forcedZero }

/-- The record of a car that a centring cause reaches: TRACKING becomes RETURNING, and nothing else changes
(R91). -/
def CarChannel.centred (c : CarChannel) : CarChannel := if c.state = .tracking then c.into .returning else c

/-- The cars a train-level centring cause sends to RETURNING, in car-index order (R91). -/
def State.trackingCars (s : State) : List CarId := allCars.filter (fun i => s.cars[i].state == .tracking)

/-- What a car-level cause makes of the record of its car (R91, R92, Table 5-5). -/
def CarChannel.caused (r : CarChannel) (cause : LatchReason) (reaction : Reaction) : CarChannel :=
  let latched := reaction = .centreAndLatch
  let held := if r.latchReason = some .driveFault then .driveFault else cause
  match r.state with
  | .tracking => { r.into .returning with latchReason := if latched then some cause else r.latchReason }
  | .centred => if latched then { r.into .latched with latchReason := some cause } else r
  | .returning | .latched =>
    if latched then { r with latchReason := some held } else r
  | .offline | .isolated | .probing => r

/-- The record with the staged law and its generation (R96). -/
def State.withStagedLaw (s : State) (c : CarChannel) : CarChannel :=
  { c with law := s.unit.stagedLaw, generation := s.unit.stagedGeneration }

/-- The resume test of R94 for a record that a frame has just computed. -/
def State.mayResume (s : State) (c : CarChannel) : Bool :=
  s.unit.mode == .run && !s.centringActive && !c.driveFault && s.gateOpen
    && s.route.straightAt c.lastPosition && s.route.straightAt c.lastLookAhead

/-- The drain test of R99 for the points a record holds. -/
def State.mustDrain (s : State) (c : CarChannel) : Bool :=
  (s.route.straightAt c.lastPosition && s.route.straightAt c.lastLookAhead)
    || s.route.noDataAt c.lastPosition || s.route.noDataAt c.lastLookAhead || !s.gateOpen

/-- The record a control frame leaves of car `i`, told for that car alone: its law, its computation from the
frame's speed `v` on the state at the frame with the gate evaluated, its profile step, and its one state test
(R88). -/
def State.frameRecord (s : State) (v : Nat) (i : CarId) : CarChannel :=
  let c := s.cars[i]
  let c := if c.quiet && c.generation != s.unit.stagedGeneration then s.withStagedLaw c else c
  if c.state.computed then
    let c := (c.take ((s.setCar i c).demand v i)).step s.unit.settings.tiltMax
    if c.state = .returning ∧ c.quiet then c.into (if c.latchReason.isSome then .latched else .centred)
    else if c.state = .centred ∧ s.mayResume c then { c.into .tracking with supervision := false }
    else if c.state = .tracking ∧ s.unit.mode = .draining ∧ s.mustDrain c then c.into .returning
    else c
  else c

/-! ## What a control frame reports -/

/-- The cause of the CAR_STATE notice of a car that a frame takes to a state (R93, R94, R99, Table 5-6). -/
def frameCause : CarState → CarCause
  | .tracking => .resumed
  | .returning => .drain
  | .offline | .centred | .latched | .isolated | .probing => .arrived

/-- The notices of one car's turn in a frame that leaves the records `cars`: the law it took, its change of state,
and MODE when that change completes the drain, every later car being done already (R97, R100, R109, R110). -/
def State.turnNotices (s : State) (cars : Vector CarChannel 8) (i : CarId) : List Notice :=
  let c := s.cars[i]
  let others := s.configured.all (fun j => decide (j ≤ i) || s.cars[j].state.drained)
  (if c.quiet ∧ c.generation ≠ s.unit.stagedGeneration then
      [s.notice .paramApplied (some i) s.unit.stagedGeneration (u16 c.state.code)] else [])
    ++ (if cars[i].state = c.state then [] else [s.carNotice i cars[i].state (frameCause cars[i].state)])
    ++ (if s.unit.mode = .draining ∧ c.state.drained = false ∧ cars[i].state.drained = true ∧ others
          ∧ s.configured.all (fun j => cars[j].state.drained) then [s.modeNotice .config .draining] else [])

/-- The notices of the cars' turns in a frame (R87). -/
def State.frameNotices (s : State) (cars : Vector CarChannel 8) : List Notice :=
  s.configured.flatMap (s.turnNotices cars)

/-- The notices of the evaluation of a lead point (R43 to R46). -/
def State.leadNotices (s : State) (lead : Nat) : List Notice :=
  let distance := s.route.endChainage - lead
  let count := u16 s.route.ring.length
  (if distance < s.unit.trainSet.lowWater ∧ s.route.lowLatch = false then
      [s.notice .routeLow none (u16 (min 32767 (distance / 100))) count] else [])
    ++ (if s.route.endChainage ≤ lead ∧ s.route.exhaustedLatch = false then
      [s.notice .routeExhausted none count 0] else [])

/-! ## Retirement and the next turn -/

/-- What a change of the train position from `s` to `t` retires: passed segments, and passed mismatch records
when the position goes forward (R7, R32, R140). -/
structure State.Retires (s t : State) : Prop where
  still : t.odo.position = s.odo.position → t.route = s.route
  segments : t.odo.position ≠ s.odo.position → t.odo.positionValid = true →
    t.route = { s.route with
      ring := s.route.ring.dropWhile (fun g => g.stop ≤ t.rearPosition)
      headStart := match (s.route.ring.takeWhile (fun g => g.stop ≤ t.rearPosition)).getLast? with
        | some g => g.stop
        | none => s.route.headStart }
  backward : t.odo.position ≤ s.odo.position → t.sup = s.sup
  mismatches : s.odo.position < t.odo.position →
    t.sup = { s.sup with
      mismatches := s.sup.mismatches.filter (fun m => t.rearPosition ≤ m.chainage + t.unit.trainSet.matchWindow) }

/-- The turn of the first polled car of a list, in a cycle over `cars` (R113, R115). -/
def State.firstTurn (s : State) (cars toCome : List CarId) : Option PollCycle :=
  match toCome.dropWhile (fun i => !s.cars[i].state.polled) with
  | i :: rest => some { cars := cars, current := i, toCome := rest, phase := .waiting s.now }
  | [] => none

/-- The cycle after a transaction of `c` has ended: the next turn, else a pending cycle that starts, else none
(R113, R114). -/
def State.nextCycle (s : State) (c : PollCycle) (pending : Bool) : Option PollCycle :=
  match s.firstTurn c.cars c.toCome with
  | some next => some next
  | none => if pending then s.firstTurn s.cycleList s.cycleList else none

/-- The master after a transaction of `c` has ended, the states of the cars being those of `s` (R113, R114). -/
def State.linkAfter (s : State) (c : PollCycle) (l : ActuatorLink) : ActuatorLink :=
  { l with
    cycle := s.nextCycle c l.cyclePending
    cyclePending := l.cyclePending && (s.firstTurn c.cars c.toCome).isSome }

/-- The master once the cars that come to qualify for polling are left to the next cycle, the states of the cars
being those of `s`: a running cycle has them no more to address, and a turn of one of them that waits for an idle
line ends without a frame (R113, R126, R171, log 35). -/
def State.linkLeaving (s : State) (joins : CarId → Bool) (l : ActuatorLink) : ActuatorLink :=
  match l.cycle with
  | none => l
  | some c =>
    let kept := { c with toCome := c.toCome.filter (fun i => !joins i) }
    match joins c.current, c.phase with
    | true, .waiting _ => s.linkAfter kept l
    | _, _ => { l with cycle := some kept }

/-- `cmd` ends the reception of the transaction of `c` at the time `ends`, with these bytes, the line idle from
`idleFrom`: it brings the tenth byte of a reception in progress, no pause of 20 µs before it; or it reports the line
idle for 20 µs; or it brings all ten bytes, the first within the window (R117, log 14, log 36). -/
def State.ReceptionEnds (s : State) (c : PollCycle) (cmd : Instr) (sequence : Byte) (received : List RxByte)
    (ends idleFrom : Nat) : Prop :=
  ∃ dt opened,
    (∃ held b, c.phase = .receiving opened sequence held ∧ cmd = .statusReception dt [b]
      ∧ 9 ≤ held.length ∧ s.now + dt < s.link.lineIdleFrom + 30
      ∧ received = held ++ [b] ∧ ends = s.now + dt ∧ idleFrom = ends)
    ∨ (c.phase = .receiving opened sequence received ∧ cmd = .statusReception dt []
      ∧ ends = s.link.lineIdleFrom + 20 ∧ s.now + dt ≤ ends ∧ idleFrom = s.link.lineIdleFrom)
    ∨ (∃ first more, c.phase = .window opened sequence ∧ cmd = .statusReception dt (first :: more)
      ∧ s.now + dt ≤ opened + 1000 ∧ more.length = 9 ∧ (∀ b ∈ more, b.pause < 20)
      ∧ received = first :: more ∧ ends = s.now + dt + (more.map (fun b => b.pause + 10)).sum ∧ idleFrom = ends)

/-- Every configured car counts as done, in a drain (R100). -/
def State.drainEnds (s : State) (cars : Vector CarChannel 8) : Prop :=
  s.unit.mode = .draining ∧ ∀ j : CarId, j.val < s.unit.settings.carCount → cars[j].state.drained = true

/-! ## The route queue (R23, R24) -/

/-- A record in range (Table 2-2, R26). -/
structure Segment.Sound (g : Segment) : Prop where
  length_ge : 100 ≤ g.length
  length_le : g.length ≤ 2000000
  curvature : g.cStart.natAbs ≤ 20000 ∧ g.cEnd.natAbs ≤ 20000
  cant : g.hStart.natAbs ≤ 200 ∧ g.hEnd.natAbs ≤ 200
  cap : ∀ c, g.cap = some c → c ≤ 1000

/-- The segments lead from one chainage to another, each starting where the one before ends (R23). -/
def Chained : Nat → List Segment → Nat → Prop
  | start, [], stop => start = stop
  | start, g :: rest, stop => g.start = start ∧ g.Sound ∧ Chained g.stop rest stop

/-- R23, R24. -/
structure RouteQueue.Sound (r : RouteQueue) : Prop where
  fits : r.ring.length ≤ 64
  chained : Chained r.headStart r.ring r.endChainage
  bounded : r.endChainage ≤ maxChainage
  unanchored : r.anchored = false →
    r.ring = [] ∧ r.headStart = 0 ∧ r.endChainage = 0 ∧ r.commit = none ∧ r.lastLead = none
      ∧ r.lowLatch = false ∧ r.exhaustedLatch = false

/-! ## The mismatch table (R137) -/

/-- Two records from different cars lie further apart than the window. -/
def Mismatch.apart (window : Nat) (m n : Mismatch) : Prop :=
  m.car ≠ n.car → window < max m.chainage n.chainage - min m.chainage n.chainage

/-- R134, R137. -/
structure State.MismatchSound (s : State) : Prop where
  count : s.unit.trainSet.supCount ≤ 16
  persistence : ∀ i : CarId, s.sup.persistence[i] ≤ 15
  fits : s.sup.mismatches.length ≤ 4
  apart : s.sup.mismatches.Pairwise (Mismatch.apart s.unit.trainSet.matchWindow)

/-! ## Health (R120 to R124) -/

/-- What ties a car's channel record, the master's items and the Supervisor's mark together. -/
structure State.HealthSoundAt (s : State) (i : CarId) : Prop where
  range : s.link.drives[i].health ≤ 160
  isolated : s.cars[i].state = .isolated ↔ s.link.drives[i].health = 160
  offline : s.cars[i].state = .offline → s.link.drives[i].health = 0 ∧ s.cars[i].supervision = false
  reduce : s.cars[i].healthReduce = true ↔ 80 ≤ s.link.drives[i].health
  warned : 40 ≤ s.link.drives[i].health → s.link.drives[i].warned = true
  warned_pos : s.link.drives[i].warned = true → 0 < s.link.drives[i].health
  probing : s.link.drives[i].probing ≤ 15
  probing_only : s.cars[i].state ≠ .probing → s.link.drives[i].probing = 0
  suspended : s.cars[i].supervision = s.sup.suspended[i]
  faultKnown : s.cars[i].driveFault = true → s.link.drives[i].lastGood ≠ none

/-- R90, R120 to R124, R136, for every car. -/
def State.HealthSound (s : State) : Prop := ∀ i : CarId, s.HealthSoundAt i

/-! ## The states of the cars (R86, R91, R95, R100) -/

/-- What holds of one car's record. -/
structure State.CarSoundAt (s : State) (i : CarId) : Prop where
  offline : s.cars[i].state = .offline ↔ s.unit.settings.carCount ≤ i.val
  config : s.unit.mode = .config → s.cars[i].state ≠ .tracking ∧ s.cars[i].state ≠ .returning
  rest : s.cars[i].state ≠ .tracking → s.cars[i].state ≠ .returning →
    s.cars[i].theta = 0 ∧ s.cars[i].omega = 0
  forced : s.cars[i].state ≠ .tracking → s.cars[i].target = 0 ∧ s.cars[i].reason = .forcedZero
  centred : s.centringActive = true → s.cars[i].state ≠ .tracking
  latched : s.cars[i].state = .latched → s.cars[i].latchReason ≠ none
  reason : s.cars[i].latchReason ≠ none → s.cars[i].state = .returning ∨ s.cars[i].state = .latched

/-- Every car is sound, INHIBIT is the filtered level, and a drain in progress is not complete. -/
structure State.CarsSound (s : State) : Prop where
  cars : ∀ i : CarId, s.CarSoundAt i
  inhibit : s.mon.inhibit = s.mon.inhibitLevel
  draining : s.unit.mode = .draining → s.drainComplete = false

/-! ## The bounds of the tilt command (R64, R74, R75) -/

/-- A tilt law in range (Table 9-3). -/
def TiltLaw.Sound (law : TiltLaw) : Prop := firstBad
  [(0, within 0 1000 law.k), (1, within 0 2000 law.deadBand), (2, within 0 3000 law.leadTime),
   (3, within 0 1000 law.tiltDegraded), (4, within 50 800 law.omegaMax),
   (5, within 50 4000 law.accel && law.accel % 50 == 0)] = none

/-- What holds of one car's command. -/
structure State.TiltSoundAt (s : State) (i : CarId) : Prop where
  theta : s.cars[i].theta.natAbs ≤ s.unit.settings.tiltMax * 100
  omega : s.cars[i].omega.natAbs ≤ s.cars[i].law.omegaMax
  target : s.cars[i].target.natAbs ≤ s.cars[i].limit
  law : s.cars[i].law.Sound

/-- Every command is within its bounds, and the staged law is in range. -/
structure State.TiltSound (s : State) : Prop where
  cars : ∀ i : CarId, s.TiltSoundAt i
  staged : s.unit.stagedLaw.Sound

/-! ## The Odometry Unit (chapter 1) -/

/-- The captures' sequences are consecutive and end at the sequence counter (R14, R16). -/
def Consecutive (last : Byte) : List Capture → Prop
  | [] => True
  | [e] => e.sequence = last
  | e :: f :: rest => f.sequence = e.sequence + 1 ∧ Consecutive last (f :: rest)

/-- R2, R4. -/
structure TachoChannel.Sound (t : TachoChannel) (now : Nat) : Prop where
  count : t.periods.length ≤ 4
  range : ∀ p ∈ t.periods, 1 ≤ p ∧ p ≤ 2000000
  stalled : t.last = none → t.periods = []
  past : ∀ l, t.last = some l → l ≤ now

structure State.OdometrySound (s : State) : Prop where
  tachoA : s.odo.tachoA.Sound s.now
  tachoB : s.odo.tachoB.Sound s.now
  position : s.odo.position ≤ maxChainage
  remainder : s.odo.remainder < 10000
  invalid : s.odo.positionValid = false → s.odo.position = 0 ∧ s.odo.remainder = 0 ∧ s.odo.captures = []
  captures : s.odo.captures.length ≤ 4
  consecutive : Consecutive s.odo.sequence s.odo.captures
  captured : ∀ e ∈ s.odo.captures, e.position ≤ maxChainage
  counts : s.odo.disagreements ≤ 4 ∧ s.odo.agreements ≤ 8
  oneRuns : s.odo.disagreements = 0 ∨ s.odo.agreements = 0
  trusted : s.odo.doubt = false → s.odo.disagreements ≤ 3 ∧ s.odo.selected = .a
  doubted : s.odo.doubt = true → s.odo.agreements ≤ 7
  rear : s.unit.settings.rearOffset ≤ 50000

/-! ## The control link (chapter 10) -/

structure State.LinkSound (s : State) : Prop where
  notices : s.ctl.notices.length ≤ 32
  fifo : s.ctl.fifo.length ≤ 4
  replies : s.ctl.replies.length ≤ 4
  waiting : s.ctl.fifo ≠ [] → s.ctl.replies.length = 4 ∨ s.ctl.hold = true
  idle : s.ctl.transmitter = .idle → s.ctl.replies = [] ∧ s.ctl.slot = none
  sendingReply : ∀ t, s.ctl.transmitter = .sendingReply t → s.ctl.replies ≠ []
  sendingBatch : ∀ t, s.ctl.transmitter = .sendingBatch t → s.ctl.slot ≠ none
  batch : ∀ b, s.ctl.slot = some b → 1 ≤ b.notices.length ∧ b.notices.length ≤ 8
  quiet : s.ctl.notices = [] →
    s.ctl.quiet = none ∧ s.ctl.absolute = none ∧ s.ctl.expiryMark = false
  restarting : s.ctl.hold = s.ctl.replies.any Reply.isRestart
  gathering : scan 0 s.ctl.rxBuffer = ([], s.ctl.rxBuffer) ∧ s.ctl.rxBuffer.length ≤ 125
  counts : s.ctl.crcErrors ≤ 65535 ∧ s.ctl.dropped ≤ 65535 ∧ s.ctl.lost ≤ 65535
  reception : ∀ c opened q held, s.link.cycle = some c → c.phase = .receiving opened q held →
    1 ≤ held.length ∧ held.length ≤ 9

end Sys2Proof.Machine
end

