-- ==== Sys2Proof/Certificates/Slice0/Obligations.lean ====
section
/-! DEFINITION. The statements about the model, each citing the rules it states. "Next state" is what `exec`
answers; a state written out says also what stays: every item that is not named is that of `s`. -/

open Sys2Proof Sys2Proof.Machine

/-! ## The machine -/

/-- A step takes the command at the front of the queue on the state with the queue's rest. The queue is the
model's own (log 2). -/
def Obligations.StepRunsFrontCommand : Prop :=
  ∀ (c : Instr) (rest : List Instr) (s : State), s.pending = c :: rest →
    step s = exec c { s with pending := rest }

/-- The timers that run in a state, and when each is due (R4, R9, R87, R113, R115 to R117, R158, R180, R185, R187);
with nothing queued, the earliest of them, the first listed of those that fall together, takes its command once its
time has come; before that 1 µs passes. The step and the order of the list are the model's choice (log 2, log 3). The
instants of the stall, the gap, the end of a frame and the setpoint are DEDUCED (log 7, log 8, log 9, log 13). -/
def Obligations.IdleStepTakesDueTimer : Prop :=
  ∀ s : State,
    let timer := fun (due : Option Nat) (c : Instr) => due.toList.map (fun d => Timer.mk d c)
    s.timers = [⟨s.frameStart + 20000, .controlFrame⟩, ⟨s.link.pollStart + 20000, .pollCycleExpiry⟩,
        ⟨s.odo.windowStart + 250000, .comparisonWindow⟩]
      ++ timer (s.odo.tachoA.last.map (· + 2000021)) (.tachoStall .a)
      ++ timer (s.odo.tachoB.last.map (· + 2000021)) (.tachoStall .b)
      ++ (match s.link.cycle.map PollCycle.phase with
        | none => []
        | some (.waiting turnAt) =>
          let sendAt := max turnAt s.link.lineIdleFrom + 20
          if sendAt ≤ turnAt + 4000 then [⟨sendAt, .setpointSend 0⟩] else [⟨turnAt + 4000, .turnWaitLimit⟩]
        | some (.sending sentAt _) => [⟨sentAt + 90, .setpointSent⟩]
        | some (.window openedAt _) => [⟨openedAt + 1000, .replyWindowClose⟩]
        | some (.receiving _ _ _) => [⟨s.link.lineIdleFrom + 20, .statusReception 0 []⟩])
      ++ (if s.unit.mode ≠ .config ∧ s.mon.linkSilent = false then
          [⟨s.mon.silenceFrom + s.unit.settings.silenceTime * 1000, .linkSilentOnset⟩] else [])
      ++ (if s.ctl.rxBuffer = [] then [] else [⟨s.ctl.rxLast + 2001, .frameGapTimeout⟩])
      ++ (match s.ctl.transmitter with
        | .idle => []
        | .sendingReply since =>
          (s.ctl.replies.take 1).map (fun r => ⟨since + controlBytesTime r.bytes.length, .replySent⟩)
        | .sendingBatch since =>
          s.ctl.slot.toList.map (fun b => ⟨since + controlBytesTime b.bytes.length, .batchSent⟩))
      ++ timer s.ctl.quiet .quietTimerExpiry ++ timer s.ctl.absolute .absoluteTimerExpiry
    ∧ (s.pending = [] →
      (∀ (before after : List Timer) (t : Timer), s.timers = before ++ t :: after → t.due ≤ s.now →
        (∀ u ∈ before, t.due < u.due) → (∀ u ∈ after, t.due ≤ u.due) → step s = exec t.command s)
      ∧ ((∀ t ∈ s.timers, s.now < t.due) → step s = .next { s with now := s.now + 1 }))

/-- Every command has its effect in every state: no step of the module stops (log 24). The queue of commands and the
time base are the model's own (log 1, log 2): no command touches the queue, a hardware reset included (log 25), and
only a hardware reset takes the time base back (log 16). -/
def Obligations.EveryCommandCompletes : Prop :=
  ∀ (c : Instr) (s : State), ∃ t, exec c s = .next t ∧ t.pending = s.pending
    ∧ ((∀ b, c ≠ .hardwareReset b) → s.now ≤ t.now)

/-! ## The control link -/

/-- The frame of a well-formed request, read again, is that request with every field as it was (Tables 11-2,
11-4 to 11-7, R194, R195). -/
def Obligations.DecodeOfEncodedRequest : Prop :=
  ∀ (c : Instr) (f : Frame), c.wf = true → encodeRequest c = some f → decodeRequest f = .request c

/-- The bytes of a request's frame, received while hunting, bring about what the request's command brings
about when it is taken at once, at the time of the frame's last byte, after the Condition Monitor has been
told of the frame (R157, R179, R181, R182). The byte times are DEDUCED (log 9), the Monitor being told before the
request is taken is DEDUCED (log 11), and a request's command standing for its frame is the model's choice
(log 5). -/
def Obligations.ReceivedFrameCarriesItsRequest : Prop :=
  ∀ (dt : Nat) (c : Instr) (f : Frame) (s : State), c.wf = true → encodeRequest c = some f →
    s.ready → s.ctl.rxBuffer = [] →
    let last := s.now + dt + controlBytesTime (f.bytes.length - 1)
    ∃ t, exec (.controlFrameReceived dt f.bytes) s = .next t
      ∧ exec c (State.heardFrame { s with now := last, ctl := { s.ctl with rxLast := last } }) = .next t

/-- A frame whose LEN is over 120, or a complete frame whose bytes are no valid frame's, is discarded, and the
bytes after its SYNC are examined again from the first (R180). A valid frame is found, and hunting goes on
with the bytes after it (R179). A byte other than SYNC is passed over while hunting (R179). -/
def Obligations.DamagedBytesAreScannedAgain : Prop :=
  (∀ (len : Byte) (rest : List Byte), 120 < len.toNat →
      scan 0 (syncByte :: len :: rest) = (.discard :: (scan 0 (len :: rest)).1, (scan 0 (len :: rest)).2))
    ∧ (∀ (len : Byte) (body rest : List Byte), len.toNat ≤ 120 → body.length = len.toNat + 4 →
        (∀ f : Frame, f.bytes ≠ syncByte :: len :: body) →
        scan 0 (syncByte :: len :: (body ++ rest))
          = (.discard :: (scan 0 (len :: (body ++ rest))).1, (scan 0 (len :: (body ++ rest))).2))
    ∧ (∀ (f : Frame) (rest : List Byte), f.payload.length ≤ 120 →
        scan 0 (f.bytes ++ rest) = (.frame f :: (scan 0 rest).1, (scan 0 rest).2))
    ∧ (∀ (b : Byte) (rest : List Byte), b ≠ 0xC3 → scan 0 (b :: rest) = scan 0 rest)

/-- A byte that comes while the receiver hunts is discarded and counted nowhere, or, as SYNC, starts a frame
(R179). A byte within 2 ms of the one before, while a frame is gathered: it joins the frame while the frame is
not complete; a LEN over 120 discards the frame, counts it and is examined again itself; a complete frame that is
valid is handed on; one that is not is discarded, counted, and its bytes after SYNC are received again (R179 to
R181). A gap of more than 2 ms discards the frame in gathering, which is counted, at its end or at the byte that
ends it (R180). The instant of the discard is DEDUCED (log 8), and so are the order at a valid frame (log 11) and
the times of the bytes examined again (log 30, log 38); with nothing in gathering the time-out changes nothing (log 4). -/
def Obligations.HuntingAndGaps : Prop :=
  ∀ (dt : Nat) (b : Byte) (s : State),
    let now := s.now + dt
    let received : State := { s with now := now, ctl := { s.ctl with rxBuffer := [], rxLast := now } }
    let counted : State := { received with ctl := { received.ctl with crcErrors := min 65535 (s.ctl.crcErrors + 1) } }
    let hunted : List Byte := if b = 0xC3 then [b] else []
    (s.ctl.rxBuffer = [] → exec (.controlLinkByteReceived dt b) s
        = .next { received with ctl := { received.ctl with rxBuffer := hunted } })
    ∧ (∀ len body, s.ctl.rxBuffer ++ [b] = 0xC3 :: len :: body → now ≤ s.ctl.rxLast + 2000 →
      (120 < len.toNat → body = [] → exec (.controlLinkByteReceived dt b) s
          = .next { counted with ctl := { counted.ctl with rxBuffer := hunted } })
      ∧ (len.toNat ≤ 120 → body.length < len.toNat + 4 → exec (.controlLinkByteReceived dt b) s
          = .next { received with ctl := { received.ctl with rxBuffer := s.ctl.rxBuffer ++ [b] } })
      ∧ (∀ f : Frame, len.toNat ≤ 120 → 0xC3 :: len :: body = f.bytes → f.payload.length = len.toNat →
          exec (.controlLinkByteReceived dt b) s = .next (((received.joinFifo f).heardFrame).serve))
      ∧ (len.toNat ≤ 120 → body.length = len.toNat + 4 → (∀ f : Frame, 0xC3 :: len :: body ≠ f.bytes) →
          exec (.controlLinkByteReceived dt b) s = .next ((len :: body).foldl State.receiveByte counted)))
    ∧ (s.ctl.rxBuffer ≠ [] → s.ctl.rxLast + 2000 < now → exec (.controlLinkByteReceived dt b) s
        = .next { counted with ctl := { counted.ctl with rxBuffer := hunted } })
    ∧ (s.ctl.rxBuffer ≠ [] → s.now ≤ s.ctl.rxLast + 2001 →
        exec .frameGapTimeout s = .next { s with
          now := s.ctl.rxLast + 2001
          ctl := { s.ctl with rxBuffer := [], crcErrors := min 65535 (s.ctl.crcErrors + 1) } })
    ∧ (s.ctl.rxBuffer = [] → exec .frameGapTimeout s = .next s)

/-- A taken request that is refused changes no state of the module: it leaves its one reply, with the KIND and
TAG of R183. A KIND that names no request is refused with UNKNOWN_REQUEST, and a payload of the wrong length
with BAD_LENGTH (R183). SET_MODE with a value that is neither RUN nor CONFIG is refused with OUT_OF_RANGE (R167);
that this reply carries no data is DEDUCED (log 26). -/
def Obligations.RefusedRequestChangesNothing : Prop :=
  (∀ (c : Instr) (kind tag : Byte) (m : State → Answer) (s : State),
      requestMeaning c = some (kind, tag, m) → s.ready → (m s).status ≠ .ok →
      exec c s = .next (s.replied ⟨kind ||| 0x80, tag, (m s).status, (m s).data⟩))
    ∧ (∀ (kind tag : Byte) (payload : List Byte) (s : State), isRequestKind kind = false → s.ready →
        exec (.unknownRequest kind tag payload) s
          = .next (s.replied ⟨kind ||| 0x80, tag, .unknownRequest, []⟩))
    ∧ (∀ (f : Frame) (s : State), decodeRequest f = .badLength →
        s.takeFrame f = s.replied ⟨f.kind ||| 0x80, f.tag, .badLength, []⟩)
    ∧ (∀ (tag value : Byte) (s : State), value ≠ 0 → value ≠ 1 →
        s.takeFrame ⟨0x05, tag, [value]⟩ = s.replied ⟨0x85, tag, .outOfRange, []⟩)

/-- A request that finds four replies in the reply queue, or the request hold set, waits in the inbound FIFO;
with four frames there it is dropped, counted and reported (R181, R182). That a request's command stands for
its frame at the FIFO is the model's choice (log 5). -/
def Obligations.BusyRequestWaits : Prop :=
  ∀ (c : Instr) (f : Frame) (s : State), encodeRequest c = some f →
    (4 ≤ s.ctl.replies.length ∨ s.ctl.hold = true) →
    (s.ctl.fifo.length < 4 → exec c s = .next { s with ctl := { s.ctl with fifo := s.ctl.fifo ++ [f] } })
      ∧ (4 ≤ s.ctl.fifo.length → ∃ t, exec c s = .next t
          ∧ t = { s with ctl := t.ctl }
          ∧ ControlLink.Reports { s.ctl with dropped := min 65535 (s.ctl.dropped + 1) } t.ctl []
              [s.notice .linkOverrun none (f.kind.setWidth 16) (f.tag.setWidth 16)])

/-- What the module sends, byte by byte: numbers most significant byte first, the CRC, replies, notice records, batches
and SETPOINT frames, with the codes of Table 11-3 (Tables 11-1, 11-8, 11-9, R194, R196). That a frame on the control
link ends at a whole µs, rounded up, is DEDUCED (log 9). -/
def Obligations.SentFramesSpelledOut : Prop :=
  let shift := fun r : BitVec 16 => if r.msb then (r <<< 1) ^^^ 0x1021 else r <<< 1
  let u8 := fun n : Nat => BitVec.ofNat 8 n
  let closed := fun covered : List Byte => covered ++ bytes16 (crc16 covered)
  (∀ x : BitVec 16, bytes16 x = [u8 (x.toNat / 256), u8 x.toNat])
  ∧ (∀ x : BitVec 24, bytes24 x = [u8 (x.toNat / 65536), u8 (x.toNat / 256), u8 x.toNat])
  ∧ (∀ x : BitVec 32,
      bytes32 x = [u8 (x.toNat / 16777216), u8 (x.toNat / 65536), u8 (x.toNat / 256), u8 x.toNat])
  ∧ crc16 [] = 0xFFFF
  ∧ (∀ (l : List Byte) (b : Byte), crc16 (l ++ [b])
      = shift (shift (shift (shift (shift (shift (shift (shift (crc16 l ^^^ (b ++ (0 : BitVec 8)))))))))))
  ∧ (∀ r : Reply, r.bytes
      = 0xC3 :: closed ([u8 (r.data.length + 1), r.kind, r.tag, u8 r.status.code] ++ r.data))
  ∧ (∀ n : Notice, n.bytes = [u8 n.kind.code, match n.car with | some i => u8 i.val | none => 0xFF]
      ++ bytes32 (BitVec.ofNat 32 n.position) ++ bytes16 n.valueA ++ bytes16 n.valueB)
  ∧ (∀ b : Batch, b.bytes = 0xC3 :: closed ([u8 (2 + 10 * b.notices.length), 0x40, b.sequence]
      ++ bytes16 (BitVec.ofNat 16 b.lost) ++ b.notices.flatMap Notice.bytes))
  ∧ (∀ f : SetpointFrame, f.bytes = closed ([u8 f.car.val, if f.track then 0x01 else 0x02]
      ++ bytes16 f.setpoint ++ bytes16 f.rate ++ [f.sequence]))
  ∧ [Status.ok, .unknownRequest, .badLength, .outOfRange, .wrongMode, .wrongState, .queueFull, .notContiguous,
      .notBoundary, .committed, .routeFrozen, .noCapture, .badCar, .notLatched, .notIsolated, .causeActive, .noTrain,
      .noPosition].map Status.code = List.range 18
  ∧ [NoticeKind.started, .mode, .carState, .paramApplied, .routeLow, .routeExhausted, .routeDoubt, .mismatch,
      .healthWarning, .isolated, .driveFault, .odometryDoubt, .marker, .positionCorrected, .clockFallback, .inhibit,
      .linkSilentEnd, .linkOverrun].map NoticeKind.code = List.range 18
  ∧ [CarCause.inhibit, .routeDoubt, .linkSilent, .positionJump, .drain, .driveFault, .supervision, .arrived, .resumed,
      .resumeRequest, .isolation, .readmit, .probePassed, .probeFailed, .configure].map CarCause.code = List.range 15
  ∧ [CarState.offline, .centred, .tracking, .returning, .latched, .isolated, .probing].map CarState.code
      = List.range 7
  ∧ [Mode.config, .run, .draining].map Mode.code = List.range 3
  ∧ [ResetCause.powerOn, .resetLine, .restart].map ResetCause.code = List.range 3
  ∧ (∀ k : NoticeKind, k.urgent = true ↔ k ∈ [.started, .mode, .routeDoubt, .isolated, .clockFallback, .inhibit])
  ∧ (∀ n : Nat, n * 10000000 ≤ controlBytesTime n * 460800 ∧ controlBytesTime n * 460800 < n * 10000000 + 460800)

/-- The silence of the control link: its onset in RUN or DRAINING sets LINK_SILENT, without a notice, and with
SILENCE_REACTION CENTRE sends every TRACKING car to RETURNING (R158); a valid frame ends it with a notice of
its length and restarts the timer (R157, R159). -/
def Obligations.LinkSilenceSetAndEnded : Prop :=
  (∀ s : State, s.unit.mode ≠ .config → s.mon.linkSilent = false → s.CarsSound →
      s.now ≤ s.mon.silenceFrom + s.unit.settings.silenceTime * 1000 →
      ∃ t, exec .linkSilentOnset s = .next t
        ∧ t = { s with
            now := s.mon.silenceFrom + s.unit.settings.silenceTime * 1000
            mon := { s.mon with linkSilent := true }
            cars := if s.unit.settings.silenceReaction = .centre then s.cars.map CarChannel.centred else s.cars
            ctl := t.ctl }
        ∧ s.ctl.Reports t.ctl [] (if s.unit.settings.silenceReaction = .centre then
            s.trackingCars.map (fun i => s.carNotice i .returning .linkSilent) else []))
    ∧ (∀ s : State, (s.unit.mode = .config ∨ s.mon.linkSilent = true) → exec .linkSilentOnset s = .next s)
    ∧ (∀ s : State,
        s.heardFrame = { s with
          mon := { s.mon with linkSilent := false, silenceFrom := s.now }, ctl := s.heardFrame.ctl }
        ∧ s.ctl.Reports s.heardFrame.ctl [] (if s.mon.linkSilent then
            [s.notice .linkSilentEnd none (u16 (min 65535 ((s.now - s.mon.silenceFrom) / 1000)))
              (u16 (if s.unit.settings.silenceReaction = .centre then 1 else 0))] else []))

/-- At the last bit of a reply it leaves the reply queue; then frames that wait are taken one after another while
a reply slot is free and the request hold clear, and the transmitter takes the oldest reply left, else the batch in
the slot, else nothing (R182, R185). The end of the frame is DEDUCED (log 9), and the FIFO being tested before the
transmitter chooses is DEDUCED (log 23). -/
def Obligations.ReplySentFreesTheLine : Prop :=
  (∀ (since : Nat) (r : Reply) (rest : List Reply) (s : State),
    s.ctl.transmitter = .sendingReply since → s.ctl.replies = r :: rest → r.isRestart = false →
    s.now ≤ since + controlBytesTime r.bytes.length →
    let u : State := { s with
      now := since + controlBytesTime r.bytes.length, ctl := { s.ctl with replies := rest } }
    let v := u.serve
    exec .replySent s = .next { v with ctl := { v.ctl with
        transmitter := if v.ctl.replies ≠ [] then .sendingReply v.now
          else if v.ctl.slot ≠ none then .sendingBatch v.now else .idle } })
    ∧ (∀ u : State, (u.ctl.fifo = [] ∨ 4 ≤ u.ctl.replies.length ∨ u.ctl.hold = true) → u.serve = u)
    ∧ (∀ (u : State) (f : Frame) (waiting : List Frame), u.ctl.fifo = f :: waiting → u.ctl.replies.length < 4 →
        u.ctl.hold = false →
        u.serve = State.serve (State.takeFrame { u with ctl := { u.ctl with fifo := waiting } } f))

/-- At the last bit of a batch the slot is empty and the formation test is made: with no batch due the slot
stays empty; with one due it is formed of the oldest eight notices and the lost count, and carries the batch
sequence. The transmitter then takes the oldest reply, else the batch (R185, R188, R189). The instant of the last
bit is DEDUCED (log 9). -/
def Obligations.BatchSentEmptiesTheSlot : Prop :=
  ∀ (since : Nat) (b : Batch) (s : State), s.ctl.transmitter = .sendingBatch since → s.ctl.slot = some b →
    s.now ≤ since + controlBytesTime b.bytes.length →
    let u : State := { s with now := since + controlBytesTime b.bytes.length }
    let due := s.ctl.notices ≠ [] ∧ (s.unit.settings.noticeThreshold ≤ s.ctl.notices.length
      ∨ s.ctl.expiryMark = true ∨ ∃ n ∈ s.ctl.notices, n.kind.urgent = true)
    (¬ due → exec .batchSent s = .next { u with ctl := { u.ctl with
        slot := none
        transmitter := if s.ctl.replies ≠ [] then .sendingReply u.now else .idle } })
      ∧ (due → exec .batchSent s = .next { u with ctl := { u.ctl with
          slot := some ⟨s.ctl.batchSequence, s.ctl.lost, s.ctl.notices.take 8⟩
          batchSequence := s.ctl.batchSequence + 1
          notices := s.ctl.notices.drop 8, lost := 0, expiryMark := false
          quiet := if s.ctl.notices.length ≤ 8 then none
            else some (u.now + s.unit.settings.quietTime * 1000)
          absolute := if s.ctl.notices.length ≤ 8 then none
            else some (u.now + s.unit.settings.absoluteTime * 1000)
          transmitter := if s.ctl.replies ≠ [] then .sendingReply u.now else .sendingBatch u.now } })

/-- When either timer of the notice queue expires, it stops and the expiry mark is set. With notices queued and the
slot empty a batch is formed at once: the oldest eight and the lost count leave, both timers stop or start afresh,
and an idle transmitter takes the oldest reply, else the batch. Otherwise the mark stays (R185, R187, R188). A
stopped timer does not expire (log 4). -/
def Obligations.TimerExpiryFormsABatch : Prop :=
  ∀ s : State,
    let formed := fun (due : Nat) => { s.ctl with
      slot := some ⟨s.ctl.batchSequence, s.ctl.lost, s.ctl.notices.take 8⟩
      batchSequence := s.ctl.batchSequence + 1
      notices := s.ctl.notices.drop 8, lost := 0, expiryMark := false
      quiet := if s.ctl.notices.length ≤ 8 then none else some (due + s.unit.settings.quietTime * 1000)
      absolute := if s.ctl.notices.length ≤ 8 then none else some (due + s.unit.settings.absoluteTime * 1000)
      transmitter := match s.ctl.transmitter with
        | .idle => if s.ctl.replies ≠ [] then .sendingReply due else .sendingBatch due
        | .sendingReply t => .sendingReply t
        | .sendingBatch t => .sendingBatch t }
    (∀ due, s.ctl.quiet = some due → s.now ≤ due →
      (s.ctl.slot ≠ none ∨ s.ctl.notices = [] → exec .quietTimerExpiry s
        = .next { s with now := due, ctl := { s.ctl with quiet := none, expiryMark := true } })
      ∧ (s.ctl.slot = none → s.ctl.notices ≠ [] →
        exec .quietTimerExpiry s = .next { s with now := due, ctl := formed due }))
    ∧ (∀ due, s.ctl.absolute = some due → s.now ≤ due →
      (s.ctl.slot ≠ none ∨ s.ctl.notices = [] → exec .absoluteTimerExpiry s
        = .next { s with now := due, ctl := { s.ctl with absolute := none, expiryMark := true } })
      ∧ (s.ctl.slot = none → s.ctl.notices ≠ [] →
        exec .absoluteTimerExpiry s = .next { s with now := due, ctl := formed due }))
    ∧ (s.ctl.quiet = none → exec .quietTimerExpiry s = .next s)
    ∧ (s.ctl.absolute = none → exec .absoluteTimerExpiry s = .next s)

/-- A posted notice joins the queue, is added to what is undelivered, and starts or restarts the timers; with
32 queued it is counted as lost and nothing else changes (R186, R187). With the slot empty, an urgent notice, or
one that brings the queue to NOTICE_THRESHOLD, forms a batch at that posting; with no urgent notice, fewer than
NOTICE_THRESHOLD notices and the expiry mark clear, none is formed (R188). -/
def Obligations.PostedNoticeJoinsOrIsLost : Prop :=
  (∀ (n : Notice) (s : State), 32 ≤ s.ctl.notices.length →
      s.postNotice n = { s with ctl := { s.ctl with lost := min 65535 (s.ctl.lost + 1) } })
    ∧ (∀ (n : Notice) (s : State), s.ctl.notices.length < 32 →
        s.postNotice n = { s with ctl := (s.postNotice n).ctl }
        ∧ s.ctl.Reports (s.postNotice n).ctl [] [n]
        ∧ (s.ctl.slot ≠ none → (s.postNotice n).ctl = { s.ctl with
            notices := s.ctl.notices ++ [n]
            quiet := some (s.now + s.unit.settings.quietTime * 1000)
            absolute := if s.ctl.notices = [] then some (s.now + s.unit.settings.absoluteTime * 1000)
              else s.ctl.absolute })
        ∧ (s.ctl.slot = none → (n.kind.urgent = true ∨ s.unit.settings.noticeThreshold ≤ s.ctl.notices.length + 1) →
            (s.postNotice n).ctl.slot
              = some ⟨s.ctl.batchSequence, s.ctl.lost, (s.ctl.notices ++ [n]).take 8⟩
            ∧ (s.postNotice n).ctl.notices = (s.ctl.notices ++ [n]).drop 8
            ∧ (s.postNotice n).ctl.transmitter ≠ .idle)
        ∧ (s.ctl.slot = none → (∀ m ∈ s.ctl.notices ++ [n], m.kind.urgent = false) → s.ctl.expiryMark = false →
            s.ctl.notices.length + 1 < s.unit.settings.noticeThreshold →
            (s.postNotice n).ctl = { s.ctl with
              notices := s.ctl.notices ++ [n]
              quiet := some (s.now + s.unit.settings.quietTime * 1000)
              absolute := if s.ctl.notices = [] then some (s.now + s.unit.settings.absoluteTime * 1000)
                else s.ctl.absolute }))

/-! ## The two starts -/

/-- What a hardware reset leaves of every block, whatever stood before it (R20, R48, R60, R111, R129, R148, R164,
R175, R177, R191, R192). The time base and the stamps at 0, and the queue of commands kept, are the model's
choice (log 16, log 25). -/
def Obligations.HardwareResetLeaves : Prop :=
  ∀ (supplyCameUp : Bool) (s : State),
    let law : TiltLaw := ⟨600, 300, 1200, 300, 400, 1000⟩
    let cause : ResetCause := if supplyCameUp then .powerOn else .resetLine
    let tacho : TachoChannel := ⟨true, 0, none, [], 0⟩
    exec (.hardwareReset supplyCameUp) s = .next
      { now := 0
        odo := ⟨tacho, tacho, .a, 0, false, 0, 0, 0, 0, false, ⟨true, true, true⟩, 0, []⟩
        route := ⟨[], false, 0, 0, none, false, none, false, false⟩
        gateOpen := false
        frameStart := 0
        cars := Vector.replicate 8 ⟨.offline, 0, 0, 0, .forcedZero, 800, law, 0, false, false, false, none, none,
          none⟩
        link := ⟨0, 0, none, false, 0, Vector.replicate 8 ⟨0, 0, false, 0, none⟩⟩
        sup := ⟨Vector.replicate 8 0, Vector.replicate 8 false, []⟩
        mon := ⟨false, 0, false, .crystal, false, 0, false⟩
        unit := ⟨.config, ⟨0, Vector.replicate 8 0, 28274, 28274, 5, 800, 500, 500, .none, .centreAndLatch,
          .centreAndContinue, 4, 50, 200⟩, law, 0, ⟨19444, 1500, 5, 3000, 2000, 200000⟩, cause⟩
        ctl := ⟨[], 0, [], [], .sendingBatch 0, false, [], 0, none, none, false,
          some ⟨0, 0, [⟨.started, none, 0, if supplyCameUp then 0 else 1, 0⟩]⟩, 1, 0, 0⟩
        pending := s.pending }

/-- RESTART is refused with WRONG_MODE in RUN and DRAINING; in CONFIG it is answered OK and sets the request
hold. At the last bit of that reply each block takes its RESTART state, the queues and the slot are emptied, and
STARTED goes out in batch 0 (R21, R49, R112, R130, R149, R165, R174, R178, R191, R193). The instant of the last bit
is DEDUCED (log 9); cars that are TRACKING or RETURNING do not occur in CONFIG, and what becomes of them is left
out (log 21). -/
def Obligations.RestartInTwoParts : Prop :=
  (∀ (tag : Byte) (s : State), s.ready → s.unit.mode ≠ .config →
      exec (.restart tag) s = .next (s.replied ⟨0x91, tag, .wrongMode, []⟩))
    ∧ (∀ (tag : Byte) (s : State), s.ready → s.unit.mode = .config →
        exec (.restart tag) s
          = .next (State.replied { s with ctl := { s.ctl with hold := true } } ⟨0x91, tag, .ok, []⟩))
    ∧ (∀ (since : Nat) (tag : Byte) (data : List Byte) (rest : List Reply) (s : State),
        let r : Reply := ⟨0x91, tag, .ok, data⟩
        let sent := since + controlBytesTime r.bytes.length
        s.ctl.transmitter = .sendingReply since → s.ctl.replies = r :: rest → s.ctl.hold = true → s.now ≤ sent →
        s.unit.mode = .config →
        ∃ t, exec .replySent s = .next t
          ∧ t = { s with
              now := sent
              route := .reset, gateOpen := false, sup := .reset
              mon := { s.mon with linkSilent := false }
              cars := t.cars
              link := { s.link with drives := t.link.drives }
              unit := { s.unit with
                stagedLaw := defaultLaw, stagedGeneration := 0, trainSet := defaultTrainSet, resetCause := .restart }
              ctl := { ControlLink.reset with
                rxLast := s.ctl.rxLast, crcErrors := s.ctl.crcErrors, dropped := s.ctl.dropped
                slot := some ⟨0, 0, [s.notice .started none 2 0]⟩, batchSequence := 1
                transmitter := .sendingBatch sent } }
          ∧ ∀ i : CarId,
            let c := s.cars[i]
            let d := s.link.drives[i]
            (c.state = .offline →
                t.cars[i] = { c with law := defaultLaw, generation := 0 }
                  ∧ t.link.drives[i] = { d with probing := 0 })
            ∧ (c.state = .centred ∨ c.state = .latched ∨ c.state = .isolated →
                t.cars[i] = ⟨if c.state = .isolated then .isolated else .centred, 0, 0, 0, .forcedZero,
                    s.unit.settings.tiltMax, defaultLaw, 0, false, false, decide (80 ≤ d.health), none, none, none⟩
                  ∧ t.link.drives[i] = { d with probing := 0 })
            ∧ (c.state = .probing →
                t.cars[i] = ⟨.isolated, 0, 0, 0, .forcedZero, s.unit.settings.tiltMax, defaultLaw, 0, false,
                    false, true, none, none, none⟩
                  ∧ t.link.drives[i] = { d with health := 160, warned := true, probing := 0 }))

/-! ## The Odometry Unit -/

/-- An accepted pulse closes a period on its channel, adds its DPP to the window distance, and leaves the other
channel alone; on a channel that is not selected, or while the position is not valid, it changes nothing else
(R1, R2, R6). A level that falls before 20 µs, or whose rising edge has not been seen, gives no pulse (R1): the
edge lies after the reset, the line was low before it, and no pulse of the channel is as late. The operands, and a
gap in which a stall came, are the model's (log 6, log 7). -/
def Obligations.PulseClosesAPeriod : Prop :=
  ∀ (dt held : Nat) (ch : Tacho) (fell : Bool) (s : State),
    let u : State := { s with now := s.now + dt }
    let time := s.now + dt - held
    let old := s.tacho ch
    let edgeSeen := held ≤ s.now + dt ∧ (fell = true ∨ old.high = false) ∧ ∀ last, old.last = some last → last < time
    (¬ edgeSeen → exec (.tachoPulse dt ch fell held) s = .next u)
    ∧ (edgeSeen → held < 20 →
        exec (.tachoPulse dt ch fell held) s = .next (u.setTacho ch { old with high := false }))
    ∧ (edgeSeen → 20 ≤ held → ∃ t, exec (.tachoPulse dt ch fell held) s = .next t
        ∧ t.tacho ch = ⟨true, time, some time,
            match old.last with
            | none => old.periods
            | some last => if time - last ≤ 2000000 then ((time - last) :: old.periods).take 4 else [],
            old.windowDistance + s.unit.settings.dpp ch⟩
        ∧ (∀ other, other ≠ ch → t.tacho other = s.tacho other)
        ∧ (ch ≠ s.odo.selected ∨ s.odo.positionValid = false → t = u.setTacho ch (t.tacho ch))
        ∧ t = { u with odo := t.odo, route := t.route, sup := t.sup })

/-- A pulse of the selected channel moves a valid position by its DPP: no distance is lost between the position
and the remainder, until the position saturates (R6); what the train has passed retires (R7, R32, R140). The
remainder at saturation follows R6. -/
def Obligations.PulseMovesPosition : Prop :=
  ∀ (dt held : Nat) (fell : Bool) (s : State),
    let ch := s.odo.selected
    held ≤ s.now + dt → (fell = true ∨ (s.tacho ch).high = false) →
    (∀ last, (s.tacho ch).last = some last → last < s.now + dt - held) → 20 ≤ held → s.odo.positionValid = true →
    ∃ t, exec (.tachoPulse dt ch fell held) s = .next t
      ∧ (let cm := s.odo.position + (s.odo.remainder + s.unit.settings.dpp ch) / 10000
        if cm ≤ 4294967295 then
          t.odo.position = cm ∧ t.odo.remainder < 10000
            ∧ t.odo.position * 10000 + t.odo.remainder
              = s.odo.position * 10000 + s.odo.remainder + s.unit.settings.dpp ch
        else t.odo.position = 4294967295 ∧ t.odo.remainder = 0)
      ∧ t.odo = { s.odo with
          position := t.odo.position, remainder := t.odo.remainder, tachoA := t.odo.tachoA, tachoB := t.odo.tachoB }
      ∧ s.Retires t

/-- The speed of a channel with four periods, the elapsed time in place of a newest period it exceeds; it does
not rise while no pulse comes (R3). When a further µs begins after 2,000,000 µs without a pulse accepted the
channel stalls: its history is cleared, its last pulse time is absent, and its speed is 0 (R4). That the
2,000,000 µs run from the acceptance, 20 µs after the pulse's edge, is DEDUCED (log 7); with no last pulse time
nothing stalls (log 4). The train speed is the speed of the selected channel at the time of reading (R5). -/
def Obligations.SpeedFallsUntilTheStall : Prop :=
  (∀ (t : TachoChannel) (dpp now p₁ p₂ p₃ p₄ last : Nat),
      t.periods = [p₁, p₂, p₃, p₄] → t.last = some last →
      (now ≤ last + 2000020 →
        t.speed dpp now = (let sum := (if p₁ < now - last then now - last else p₁) + p₂ + p₃ + p₄
          if 90000 < 4 * dpp * 1000 / sum then 90000 else 4 * dpp * 1000 / sum))
      ∧ (last + 2000021 ≤ now → t.speed dpp now = 0))
    ∧ (∀ (t : TachoChannel) (dpp now later : Nat), (∀ p ∈ t.periods, 1 ≤ p) → now ≤ later →
        t.speed dpp later ≤ t.speed dpp now)
    ∧ (∀ (t : TachoChannel) (dpp now : Nat), t.periods.length < 4 → t.speed dpp now = 0)
    ∧ (∀ (ch : Tacho) (last : Nat) (s : State), (s.tacho ch).last = some last → s.now ≤ last + 2000021 →
      ∃ t, exec (.tachoStall ch) s = .next t
        ∧ t = State.setTacho { s with now := last + 2000021 } ch { s.tacho ch with periods := [], last := none }
        ∧ t.channelSpeed ch = 0)
    ∧ (∀ (ch : Tacho) (s : State), (s.tacho ch).last = none → exec (.tachoStall ch) s = .next s)
    ∧ (∀ s : State, s.speed = match s.odo.selected with
      | .a => s.odo.tachoA.speed s.unit.settings.dppA s.now
      | .b => s.odo.tachoB.speed s.unit.settings.dppB s.now)

/-- The end of a comparison window: a window of less than 50 cm tests nothing; a disagreeing window counts,
sets ODOMETRY_DOUBT at the fourth and selects the larger distance; an agreeing window counts, and at the eighth
clears the doubt and selects channel A; under doubt each tested window selects afresh (R9 to R12, R19). -/
def Obligations.ComparisonWindowTested : Prop :=
  ∀ s : State, s.now ≤ s.odo.windowStart + 250000 →
    let dA := s.odo.tachoA.windowDistance
    let dB := s.odo.tachoB.windowDistance
    let larger : Tacho := if dB < dA then .a else if dA < dB then .b else s.odo.selected
    let bad := min 4 (s.odo.disagreements + 1)
    let good := min 8 (s.odo.agreements + 1)
    let o : Odometry := { s.odo with
      windowStart := s.odo.windowStart + 250000
      tachoA := { s.odo.tachoA with windowDistance := 0 }, tachoB := { s.odo.tachoB with windowDistance := 0 } }
    let after : Odometry :=
      if dA < 500000 ∧ dB < 500000 then o
      else if s.unit.settings.odoLimit * max dA dB < (max dA dB - min dA dB) * 100 then
        { o with
          disagreements := bad, agreements := 0, doubt := s.odo.doubt || bad == 4
          selected := if s.odo.doubt || bad == 4 then larger else s.odo.selected }
      else
        { o with
          agreements := good, disagreements := 0, doubt := s.odo.doubt && good != 8
          selected := if s.odo.doubt then (if good = 8 then .a else larger) else s.odo.selected }
    ∃ t, exec .comparisonWindow s = .next t
      ∧ t = { s with now := s.odo.windowStart + 250000, odo := after, ctl := t.ctl }
      ∧ s.ctl.Reports t.ctl [] (if after.doubt = s.odo.doubt then []
          else [s.notice .odometryDoubt none (u16 (if after.doubt then 1 else 0))
            (u16 (if after.selected = .b then 1 else 0))])

/-- The third consecutive high sample after a low one is one marker, however long the line stays high; with a
valid position it is captured under the next sequence, the oldest of four entries making room, and reported
(R13, R14, R19). A high level of two samples is discarded (R13), and with the position not valid a marker is
ignored (R14). The samples as an operand are the model's (log 19). -/
def Obligations.MarkerCapturedOnce : Prop :=
  ∀ (dt more : Nat) (s : State),
    let f : MarkerFilter := ⟨true, true, true⟩
    (s.odo.positionValid = true →
      ∃ t, exec (.markerPulse dt ([false, true, true, true] ++ List.replicate more true)) s = .next t
        ∧ t = { s with
            now := s.now + dt
            odo := { s.odo with
              markerFilter := f, sequence := s.odo.sequence + 1
              captures := (if s.odo.captures.length < 4 then s.odo.captures else s.odo.captures.tail)
                ++ [⟨s.odo.sequence + 1, s.odo.position⟩] }
            ctl := t.ctl }
        ∧ s.ctl.Reports t.ctl [] [s.notice .marker none ((s.odo.sequence + 1).setWidth 16) 0])
    ∧ (s.odo.positionValid = false →
        exec (.markerPulse dt ([false, true, true, true] ++ List.replicate more true)) s
          = .next { s with now := s.now + dt, odo := { s.odo with markerFilter := f } })
    ∧ exec (.markerPulse dt [false, true, true, false]) s
        = .next { s with now := s.now + dt, odo := { s.odo with markerFilter := ⟨true, true, false⟩ } }

/-- SET_POSITION, judged by the mode and then by the rear offset; carried out it sets the position, makes it
valid, clears the remainder and the captures, and retires what the rear car has passed (R7, R15). -/
def Obligations.PositionSet : Prop :=
  ∀ (tag : Byte) (chainage : BitVec 32) (s : State), s.ready →
    (s.unit.mode ≠ .config → exec (.setPosition tag chainage) s = .next (s.replied ⟨0x86, tag, .wrongMode, []⟩))
    ∧ (s.unit.mode = .config → chainage.toNat < s.unit.settings.rearOffset →
        exec (.setPosition tag chainage) s = .next (s.replied ⟨0x86, tag, .outOfRange, []⟩))
    ∧ (s.unit.mode = .config → s.unit.settings.rearOffset ≤ chainage.toNat →
        ∃ t, exec (.setPosition tag chainage) s = .next t
          ∧ t = { s.replied ⟨0x86, tag, .ok, []⟩ with
              odo := { s.odo with
                position := chainage.toNat, positionValid := true, remainder := 0, captures := [] }
              route := t.route, sup := t.sup }
          ∧ s.Retires t)

/-- POSITION_FIX of a captured marker: the position takes the correction, held between the rear offset and the
greatest chainage; the entry and the older ones go, the newer ones take the shift; a large fix sends every
TRACKING car to RETURNING, after its notice (R16 to R19). Without the entry it is refused with NO_CAPTURE. That bits 7
to 2 of the reply's flags, which Table 11-7 gives no meaning, are 0 is the model's choice (log 39). -/
def Obligations.PositionFixApplied : Prop :=
  (∀ (tag n : Byte) (surveyed : BitVec 32) (s : State), s.ready → (∀ e ∈ s.odo.captures, e.sequence ≠ n) →
      exec (.positionFix tag n surveyed) s = .next (s.replied ⟨0x87, tag, .noCapture, []⟩))
    ∧ (∀ (tag n : Byte) (surveyed : BitVec 32) (captured : Nat) (older newer : List Capture) (s : State),
        s.ready → s.CarsSound → (∀ e ∈ older, e.sequence ≠ n) →
        s.odo.captures = older ++ ⟨n, captured⟩ :: newer →
        let correction : Int := surveyed.toNat - captured
        let raw : Int := s.odo.position + correction
        let rear : Int := s.unit.settings.rearOffset
        let target : Int := if raw < rear then rear else min raw 4294967295
        s.unit.settings.rearOffset ≤ 4294967295 →
        let clamped := target ≠ raw
        let large := s.unit.settings.fixWindow < correction.natAbs
        let code : Nat := (if large then 1 else 0) + (if clamped then 2 else 0)
        ∃ t, exec (.positionFix tag n surveyed) s = .next t
          ∧ t = { s with
              odo := { s.odo with
                position := target.toNat
                remainder := if clamped then 0 else s.odo.remainder
                captures := newer.map (fun e : Capture =>
                  ⟨e.sequence, (max 0 (min 4294967295 ((e.position : Int) + (target - s.odo.position)))).toNat⟩) }
              route := t.route, sup := t.sup
              cars := if large then s.cars.map CarChannel.centred else s.cars
              ctl := t.ctl }
          ∧ s.Retires t
          ∧ s.ctl.Reports t.ctl
              [⟨0x87, tag, .ok, bytes32 (BitVec.ofInt 32 (max (-2147483648) (min 2147483647 correction)))
                ++ [BitVec.ofNat 8 code] ++ bytes32 (BitVec.ofNat 32 target.toNat)⟩]
              (t.notice .positionCorrected none (BitVec.ofInt 16 (max (-32768) (min 32767 correction)))
                  (BitVec.ofNat 16 code)
                :: (if large then s.trackingCars.map (fun i => t.carNotice i .returning .positionJump) else [])))

/-! ## The Route Queue -/

/-- The checks of ROUTE_APPEND in their order: the payload's records, ROUTE_DOUBT, the anchor, the first bad
record, the free count; the first that fails decides the reply and nothing changes (R25, R26, R183, R195). -/
def Obligations.AppendJudgedInOrder : Prop :=
  ∀ (tag : Byte) (anchor : BitVec 32) (records : List SegmentPayload) (s : State), s.ready →
    let start := fun before : List SegmentPayload => anchor.toNat + (before.map (fun r => r.length.toNat)).sum
    (records = [] ∨ 6 < records.length →
      exec (.routeAppend tag anchor records) s = .next (s.replied ⟨0x88, tag, .badLength, []⟩))
    ∧ (records ≠ [] → records.length ≤ 6 →
      (s.route.doubt = true →
        exec (.routeAppend tag anchor records) s = .next (s.replied ⟨0x88, tag, .routeFrozen, []⟩))
      ∧ (s.route.doubt = false → s.route.anchored = true → anchor.toNat ≠ s.route.endChainage →
        exec (.routeAppend tag anchor records) s
          = .next (s.replied ⟨0x88, tag, .notContiguous, bytes32 (BitVec.ofNat 32 s.route.endChainage)⟩))
      ∧ (s.route.doubt = false → (s.route.anchored = false ∨ anchor.toNat = s.route.endChainage) →
        (∀ (good : List SegmentPayload) (bad : SegmentPayload) (rest : List SegmentPayload),
          records = good ++ bad :: rest →
          (∀ a r b, good = a ++ r :: b → r.InRange (start a)) → ¬ bad.InRange (start good) →
          exec (.routeAppend tag anchor records) s
            = .next (s.replied ⟨0x88, tag, .outOfRange, [BitVec.ofNat 8 good.length]⟩))
        ∧ ((∀ a r b, records = a ++ r :: b → r.InRange (start a)) →
          64 < s.route.ring.length + records.length →
          exec (.routeAppend tag anchor records) s
            = .next (s.replied ⟨0x88, tag, .queueFull, [BitVec.ofNat 8 (64 - s.route.ring.length)]⟩))))

/-- A ROUTE_APPEND that passes every check: the records join the tail, each starting where the one before ends,
the latches follow R27, the reply carries the end and the free count, and what lies behind the rear car retires
at once (R22, R26, R27, R32). -/
def Obligations.AppendCarriedOut : Prop :=
  ∀ (tag : Byte) (anchor : BitVec 32) (records : List SegmentPayload) (s : State), s.ready →
    records ≠ [] → records.length ≤ 6 → s.route.doubt = false →
    (s.route.anchored = false ∨ anchor.toNat = s.route.endChainage) →
    let start := fun before : List SegmentPayload => anchor.toNat + (before.map (fun r => r.length.toNat)).sum
    (∀ a r b, records = a ++ r :: b → r.InRange (start a)) →
    s.route.ring.length + records.length ≤ 64 →
    ∃ (joining : List Segment) (t : State), exec (.routeAppend tag anchor records) s = .next t
      ∧ joining.length = records.length
      ∧ (∀ a r b, records = a ++ r :: b → joining[a.length]?
          = some ⟨r.segId, start a, r.length.toNat, r.cStart.toInt, r.cEnd.toInt, r.hStart.toInt, r.hEnd.toInt,
              r.exempt == 1, r.cap.map BitVec.toNat⟩)
      ∧ (let joined := s.route.ring ++ joining
        t = { s.replied ⟨0x88, tag, .ok, bytes32 (BitVec.ofNat 32 (start records))
              ++ [BitVec.ofNat 8 (64 - joined.length)]⟩ with
            route := { s.route with
              ring := t.route.ring, headStart := t.route.headStart, anchored := true, endChainage := start records
              exhaustedLatch := false
              lowLatch := s.route.lowLatch &&
                !(match s.route.lastLead with
                  | some p => decide (s.unit.trainSet.lowWater ≤ start records - p)
                  | none => false) } }
        ∧ (s.odo.positionValid = false → t.route.ring = joined
            ∧ t.route.headStart = if s.route.anchored then s.route.headStart else anchor.toNat)
        ∧ (s.odo.positionValid = true → t.route.ring = joined.dropWhile (fun g => g.stop ≤ s.rearPosition)
            ∧ t.route.headStart = match (joined.takeWhile (fun g => g.stop ≤ s.rearPosition)).getLast? with
              | some g => g.stop
              | none => if s.route.anchored then s.route.headStart else anchor.toNat))

/-- ROUTE_TRUNCATE is refused off a queued boundary, and behind the commit point with the first allowed
boundary; otherwise the segments from X on are withdrawn and the end is X (R36, R37). ROUTE_CLEAR empties and
unanchors the queue, and ROUTE_CONFIRM clears ROUTE_DOUBT and keeps the queue; both empty the mismatch table and post
nothing. ROUTE_CONFIRM without doubt is refused (R39, R40, R141). -/
def Obligations.RouteWithdrawnOrConfirmed : Prop :=
  ∀ (tag : Byte) (x : BitVec 32) (s : State), s.ready →
    let atBoundary := s.route.anchored = true ∧ ((∃ g ∈ s.route.ring, g.start = x.toNat) ∨ x.toNat = s.route.endChainage)
    (¬ atBoundary → exec (.routeTruncate tag x) s = .next (s.replied ⟨0x89, tag, .notBoundary, []⟩))
    ∧ (∀ c, atBoundary → s.route.commit = some c → x.toNat < c → s.route.Sound →
        ∃ first, exec (.routeTruncate tag x) s
            = .next (s.replied ⟨0x89, tag, .committed, bytes32 (BitVec.ofNat 32 c) ++ bytes32 (BitVec.ofNat 32 first)⟩)
          ∧ ((first = s.route.endChainage ∧ ∀ g ∈ s.route.ring, g.start < c)
            ∨ (c ≤ first ∧ (∃ g ∈ s.route.ring, g.start = first) ∧ ∀ g ∈ s.route.ring, c ≤ g.start → first ≤ g.start)))
    ∧ (atBoundary → (∀ c, s.route.commit = some c → c ≤ x.toNat) →
        let kept := s.route.ring.filter (fun g => g.start < x.toNat)
        exec (.routeTruncate tag x) s = .next
          { s.replied ⟨0x89, tag, .ok, BitVec.ofNat 8 (s.route.ring.length - kept.length)
              :: (bytes32 x ++ [BitVec.ofNat 8 (64 - kept.length)])⟩ with
            route := { s.route with ring := kept, endChainage := x.toNat } })
    ∧ exec (.routeClear tag) s = .next
        { s.replied ⟨0x8A, tag, .ok, [BitVec.ofNat 8 s.route.ring.length]⟩ with
          route := ⟨[], false, 0, 0, none, false, none, false, false⟩
          sup := { s.sup with mismatches := [] } }
    ∧ (s.route.doubt = true → exec (.routeConfirm tag) s = .next
        { s.replied ⟨0x8B, tag, .ok, []⟩ with
          route := { s.route with doubt := false }, sup := { s.sup with mismatches := [] } })
    ∧ (s.route.doubt = false → exec (.routeConfirm tag) s = .next (s.replied ⟨0x8B, tag, .wrongState, []⟩))

/-- The look-up of a chainage: the governing segment is the queued one whose start is at most it and whose end is
greater. An unanchored queue has none. In a sound anchored queue every chainage from the head start up to the end
has one, and no other chainage has any; a boundary belongs to the segment that starts there. -/
def Obligations.LookupFindsTheOneSegment : Prop :=
  ∀ (r : RouteQueue) (p : Nat), (r.anchored = false → r.governing p = none)
    ∧ (r.Sound → r.anchored = true →
      ((r.headStart ≤ p ∧ p < r.endChainage) ↔ r.governing p ≠ none)
      ∧ (∀ g, r.governing p = some g ↔ g ∈ r.ring ∧ g.start ≤ p ∧ p < g.start + g.length)
      ∧ (∀ g ∈ r.ring, g.start = p → r.governing p = some g))

/-- The retirement of a sound queue keeps exactly the segments that end ahead of the rear car, the head start
becoming the end of the last that went; an evaluation with the position not valid retires nothing (R32). -/
def Obligations.RetirementDropsPassedSegments : Prop :=
  ∀ s : State, s.route.Sound →
    (s.odo.positionValid = false → s.retireSegments = s)
    ∧ (s.odo.positionValid = true →
        s.retireSegments = { s with route := { s.route with
          ring := s.retireSegments.route.ring, headStart := s.retireSegments.route.headStart } }
        ∧ s.retireSegments.route.ring = s.route.ring.filter (fun g => s.rearPosition < g.stop)
        ∧ s.retireSegments.route.Sound)

/-- The evaluation of a frame's lead point: it is recorded, and ROUTE_LOW and then ROUTE_EXHAUSTED are posted at
most once each until an append clears their latches (R43 to R46). -/
def Obligations.LeadPointEvaluated : Prop :=
  ∀ (p : Nat) (s : State),
    (s.route.anchored = false → s.evaluateLead (some p) = s)
    ∧ (s.route.anchored = true →
        let distance := s.route.endChainage - p
        let low := distance < s.unit.trainSet.lowWater
        let out := s.route.endChainage ≤ p
        let count := BitVec.ofNat 16 s.route.ring.length
        s.evaluateLead (some p) = { s with
          route := { s.route with
            lastLead := some p
            lowLatch := s.route.lowLatch || decide low, exhaustedLatch := s.route.exhaustedLatch || decide out }
          ctl := (s.evaluateLead (some p)).ctl }
        ∧ s.ctl.Reports (s.evaluateLead (some p)).ctl []
          ((if low ∧ s.route.lowLatch = false then
              [s.notice .routeLow none (BitVec.ofNat 16 (min 32767 (distance / 100))) count] else [])
            ++ (if out ∧ s.route.exhaustedLatch = false then [s.notice .routeExhausted none count 0] else [])))

/-! ## The reports -/

/-- The four requests that report: IDENTIFY, QUERY_TRAIN, QUERY_CAR and QUERY_ROUTE are taken in every mode, change
no state, and carry the items of Table 11-7 in the codes of Table 11-3, each flag at its bit; a car that is not of the
train is refused with BAD_CAR and a ring index above 63 with OUT_OF_RANGE (R47, R108, R125, R160, R176, R184). The
revision letter is any letter (log 15). A commit point that is none is sent as 0 (section 11.5 for QUERY_ROUTE; for
QUERY_TRAIN the model's choice, log 37). That the bits of QUERY_CAR's marks and of QUERY_ROUTE's flags which Table 11-7
gives no meaning, 7 to 3 of each, are 0 is the model's choice (log 39). -/
def Obligations.ReportsAnswered : Prop :=
  ∀ (tag : Byte) (s : State), s.ready →
    let u16 := fun n : Nat => bytes16 (BitVec.ofNat 16 n)
    let i16 := fun z : Int => bytes16 (BitVec.ofInt 16 z)
    let u32 := fun n : Nat => bytes32 (BitVec.ofNat 32 n)
    let u8 := fun n : Nat => [BitVec.ofNat 8 n]
    let flag := fun (weight : Nat) (b : Bool) => if b then weight else 0
    let r := s.route
    let head := if r.anchored then r.headStart else 0
    let stop := if r.anchored then r.endChainage else 0
    let record := fun g : Segment =>
      let word : BitVec 32 := BitVec.ofInt 9 g.hStart ++ (BitVec.ofInt 9 g.hEnd
        ++ (BitVec.ofNat 10 (g.cap.getD 0) ++ (0 : BitVec 4)))
      u32 g.start ++ bytes16 g.segId
        ++ bytes24 (BitVec.ofNat 24 (g.length + flag 2097152 g.cap.isSome + flag 4194304 g.exempt))
        ++ i16 g.cStart ++ i16 g.cEnd ++ bytes32 word
    exec (.identify tag) s = .next (s.replied ⟨0x81, tag, .ok,
        [0x74, 0x08, Config.revisionLetter]
          ++ u8 (match s.unit.resetCause with | .powerOn => 0 | .resetLine => 1 | .restart => 2)
          ++ u16 s.ctl.crcErrors ++ u16 s.ctl.dropped ++ u16 s.link.overruns⟩)
    ∧ exec (.queryTrain tag) s = .next (s.replied ⟨0x8E, tag, .ok,
        u8 (match s.unit.mode with | .config => 0 | .run => 1 | .draining => 2)
          ++ u8 s.unit.settings.carCount ++ u32 s.odo.position ++ u32 s.speed
          ++ u8 (flag 1 s.odo.positionValid + flag 2 s.gateOpen + flag 4 (decide (s.odo.selected = .b))
            + flag 8 r.commit.isNone + flag 16 s.mon.inhibit + flag 32 s.mon.clockFallback + flag 64 s.odo.doubt
            + flag 128 r.doubt)
          ++ u32 (r.commit.getD 0) ++ u32 stop ++ u8 r.ring.length ++ bytes16 s.unit.stagedGeneration⟩)
    ∧ (∀ (car : Byte) (i : CarId), i.val = car.toNat → i.val < s.unit.settings.carCount →
        let c := s.cars[i]
        let d := s.link.drives[i]
        exec (.queryCar tag car) s = .next (s.replied ⟨0x8F, tag, .ok,
          u8 (match c.state with
            | .offline => 0 | .centred => 1 | .tracking => 2 | .returning => 3 | .latched => 4 | .isolated => 5
            | .probing => 6)
            ++ i16 (roundCdeg c.theta) ++ i16 c.omega ++ i16 c.target
            ++ u8 (match c.reason with | .law => 0 | .capped => 1 | .noRoute => 2 | .speed => 3 | .forcedZero => 4)
            ++ u16 c.limit ++ bytes16 c.generation
            ++ u8 (flag 1 c.driveFault + flag 2 c.supervision + flag 4 c.healthReduce)
            ++ u8 (match c.latchReason with | none => 0 | some .driveFault => 1 | some .supervision => 2)
            ++ u8 (flag 1 c.lastPosition.isNone + flag 2 c.lastLookAhead.isNone + flag 4 d.lastGood.isNone)
            ++ u32 (c.lastPosition.getD 0) ++ u32 (c.lastLookAhead.getD 0) ++ u8 d.health
            ++ (match d.lastGood with | some g => i16 g.tilt ++ i16 g.lateral | none => [0, 0, 0, 0])
            ++ u8 s.sup.persistence[i]⟩))
    ∧ (∀ car : Byte, s.unit.settings.carCount ≤ car.toNat ∨ 8 ≤ car.toNat →
        exec (.queryCar tag car) s = .next (s.replied ⟨0x8F, tag, .badCar, []⟩))
    ∧ (∀ index : Byte, index.toNat ≤ 63 → exec (.queryRoute tag index) s = .next (s.replied ⟨0x90, tag, .ok,
        u8 (flag 1 r.anchored + flag 2 r.doubt + flag 4 r.commit.isNone) ++ u32 head ++ u32 stop
          ++ u32 (r.commit.getD 0) ++ u8 r.ring.length ++ ((r.ring.drop index.toNat).take 6).flatMap record⟩))
    ∧ (∀ index : Byte, 63 < index.toNat →
        exec (.queryRoute tag index) s = .next (s.replied ⟨0x90, tag, .outOfRange, []⟩))

/-! ## Demand and profile -/

/-- The speed gate is evaluated at every control frame from the frame's speed, and nothing else changes it but
the two starts, which shut it (R60, R69). The speed of a frame that is taken late is the one at that later time, by
the model's choice (log 29); taken at its instant it is that of R50. -/
def Obligations.GateChangesAtFramesAlone : Prop :=
  (∀ s t : State, exec .controlFrame s = .next t →
      let v := State.speed { s with now := max s.now (s.frameStart + 20000) }
      let vMin := s.unit.trainSet.vMin
      t.gateOpen = if v = 0 then false else if vMin ≤ v then true else if v + 1389 < vMin then false else s.gateOpen)
    ∧ (∀ (c : Instr) (s t : State), exec c s = .next t → c ≠ .controlFrame →
        t.gateOpen = s.gateOpen
          ∨ (t.gateOpen = false ∧ ((∃ b, c = .hardwareReset b) ∨ (c = .replySent ∧ s.ctl.hold = true))))

/-- The dead band: an acceleration within it counts as 0, and one beyond it by its part beyond, with its sign. -/
def Obligations.DeadBandApplied : Prop :=
  ∀ (a : Int) (deadBand : Nat),
    (a.natAbs ≤ deadBand → effectiveAcceleration a deadBand = 0)
    ∧ ((deadBand : Int) < a → effectiveAcceleration a deadBand = a - deadBand)
    ∧ (a < -(deadBand : Int) → effectiveAcceleration a deadBand = a + deadBand)
    ∧ (deadBand = 0 → effectiveAcceleration a deadBand = a)
    ∧ (effectiveAcceleration a deadBand).natAbs = a.natAbs - deadBand
    ∧ 0 ≤ effectiveAcceleration a deadBand * a

/-- With the gate OPEN and route data at the look-ahead point (R53) the target is the raw tilt (R56, R59) held within
the effective limit, with its reason (R64); without route data there, or without a valid position, it is 0 with
NO_ROUTE (R52, R55), and with the gate SHUT 0 with SPEED (R61). The limit of every computation is TILT_MAX, the smaller of it and
TILT_DEGRADED under CLOCK_FALLBACK, ODOMETRY_DOUBT or HEALTH_REDUCE, bounded by the caps of the segments that govern
the car position and the look-ahead point, and without caps while the position is not valid (R62, R63). Every target
lies within the limit, and the limit within TILT_MAX. -/
def Obligations.TargetHeldWithinTheLimit : Prop :=
  ∀ (s : State) (v : Nat) (i : CarId),
    let law := s.cars[i].law
    let position := s.odo.position - s.unit.settings.offsets[i]
    let p := min 4294967295 (position + v * law.leadTime / 10000)
    let d := s.demand v i
    let tiltMax := s.unit.settings.tiltMax
    let reduced := s.mon.clockFallback = true ∨ s.odo.doubt = true ∨ s.cars[i].healthReduce = true
    let base := if reduced then min tiltMax law.tiltDegraded else tiltMax
    let capAt := fun q : Nat => (s.route.governing q).bind Segment.cap
    (∀ g, s.odo.positionValid = true → s.gateOpen = true → s.route.governing p = some g →
      let felt := max (-9999) (min 9999
        (((v : Int) * v * g.curvature p).tdiv 1000000000 - (9807 * g.cant p).tdiv 1500))
      let raw := (effectiveAcceleration felt law.deadBand * law.k * 5843).tdiv 10000000
      (raw.natAbs ≤ d.limit → d.target = raw ∧ d.reason = .law)
      ∧ (d.limit < raw.natAbs → d.target = (if 0 < raw then (d.limit : Int) else -d.limit) ∧ d.reason = .capped)
      ∧ (raw = 0 → d.target = 0 ∧ d.reason = .law))
    ∧ (s.odo.positionValid = false ∨ s.route.governing p = none → d.target = 0 ∧ d.reason = .noRoute)
    ∧ (s.odo.positionValid = true → s.route.governing p ≠ none → s.gateOpen = false →
      d.target = 0 ∧ d.reason = .speed)
    ∧ (s.odo.positionValid = false → d.limit = base ∧ d.position = none ∧ d.lookAhead = none)
    ∧ (s.odo.positionValid = true → d.limit ≤ base
      ∧ (∀ c, capAt position = some c ∨ capAt p = some c → d.limit ≤ c)
      ∧ (d.limit = base ∨ capAt position = some d.limit ∨ capAt p = some d.limit)
      ∧ d.position = some position ∧ d.lookAhead = some p)
    ∧ d.target.natAbs ≤ d.limit ∧ d.limit ≤ tiltMax

/-- One profile step: the rate holds, is braked or is raised as the first case of Table 4-2 says, with the stopping
distance; the command then moves by twice the new rate, or arrives on the target when it reaches or passes it, or
stops at the bound. The rate changes by at most Δω unless it ends at 0, and stays within OMEGA_MAX, and the command
within TILT_MAX; a move and its mirror image are mirrored (R70 to R76, R81). -/
def Obligations.ProfileStepBounded : Prop :=
  ∀ (theta omega target : Int) (law : TiltLaw) (tiltMax : Nat),
    target.natAbs ≤ tiltMax → omega.natAbs ≤ law.omegaMax →
    let r := profileStep theta omega target law tiltMax
    let goal := target * 100
    let e := goal - theta
    let step : Int := (law.accel / 50 : Nat)
    let stop := omega * omega / step + omega.natAbs
    let bound : Int := tiltMax * 100
    let toward := (0 < omega ∧ 0 < e) ∨ (omega < 0 ∧ e < 0)
    let braked := if step < omega then omega - step else if omega < -step then omega + step else 0
    let raised := if 0 < e then min (omega + step) law.omegaMax else max (omega - step) (-law.omegaMax)
    let moves := fun rate : Int =>
      let next := theta + 2 * rate
      (((0 < e ∧ goal ≤ next) ∨ (e < 0 ∧ next ≤ goal)) → r = (goal, 0))
      ∧ (¬ ((0 < e ∧ goal ≤ next) ∨ (e < 0 ∧ next ≤ goal)) →
        (bound < next → r = (bound, 0)) ∧ (next < -bound → r = (-bound, 0))
        ∧ (-bound ≤ next → next ≤ bound → r = (next, rate)))
    (e = 0 → omega = 0 → r = (theta, 0))
    ∧ (omega ≠ 0 → ¬ toward → moves braked)
    ∧ (omega ≠ 0 → toward → (e.natAbs : Int) ≤ stop → moves braked)
    ∧ (e ≠ 0 → (omega = 0 ∨ toward) → stop < e.natAbs → moves raised)
    ∧ ((r.2 - omega).natAbs ≤ law.accel / 50 ∨ r.2 = 0)
    ∧ r.2.natAbs ≤ law.omegaMax
    ∧ r.1.natAbs ≤ tiltMax * 100
    ∧ profileStep (-theta) (-omega) (-target) law tiltMax = (-r.1, -r.2)

/-- The curvature and cant at a chainage of a segment are its start values plus the part of the difference that the
way along it makes, the division truncating toward zero: they begin at the start values and stay between the two
(R30). The command in cdeg is the nearest whole number, halves away from zero, and lies within TILT_MAX (R77). -/
def Obligations.InterpolationAndRounding : Prop :=
  (∀ (g : Segment) (p : Nat), g.start ≤ p → p < g.start + g.length →
      let between := fun (first last value : Int) =>
        let part := (value - first) * g.length
        let whole := (last - first) * (p - g.start : Nat)
        (whole - part).natAbs < g.length ∧ part.natAbs ≤ whole.natAbs ∧ 0 ≤ part * whole
          ∧ min first last ≤ value ∧ value ≤ max first last
      between g.cStart g.cEnd (g.curvature p) ∧ between g.hStart g.hEnd (g.cant p)
      ∧ (p = g.start → g.curvature p = g.cStart ∧ g.cant p = g.hStart))
    ∧ (∀ (theta : Int) (tiltMax : Nat),
      let c := roundCdeg theta
      (2 * (theta - 100 * c).natAbs ≤ 100)
      ∧ (2 * (theta - 100 * c).natAbs = 100 → theta.natAbs < 100 * c.natAbs)
      ∧ (theta.natAbs ≤ tiltMax * 100 → c.natAbs ≤ tiltMax)
      ∧ roundCdeg (-theta) = -c)

/-! ## The car channels -/

/-- The control frame, told for each car alone: the frame takes the cars one after another, and yet each
configured car's record ends as its own steps make it, from the frame's one speed and position, whatever the
other cars do; the commit point rises to the furthest look-ahead point; the lead point, car 0's report or else the
greatest, is recorded and evaluated; a completed drain makes the mode CONFIG. The notices are each car's
PARAM_APPLIED and CAR_STATE in turn, the MODE notice after the change that completes a drain, and then ROUTE_LOW
and ROUTE_EXHAUSTED (R34, R43 to R45, R50, R54, R60, R87 to R89, R93, R94, R97, R99, R100, R109, R110). -/
def Obligations.ControlFrameMovesEachCar : Prop :=
  ∀ s : State, s.now ≤ s.frameStart + 20000 →
    let timed : State := { s with now := s.frameStart + 20000, frameStart := s.frameStart + 20000 }
    let v := timed.speed
    let f : State := { timed with gateOpen := gateAfter v s.unit.trainSet.vMin s.gateOpen }
    let computed := f.configured.filter (fun i => s.cars[i].state.computed)
    ∃ t, exec .controlFrame s = .next t
      ∧ (∀ i : CarId, t.cars[i] = if i.val < s.unit.settings.carCount then f.frameRecord v i else s.cars[i])
      ∧ (∀ i : CarId, t.sup.suspended[i]
          = if s.cars[i].state ≠ .tracking ∧ t.cars[i].state = .tracking then false else s.sup.suspended[i])
      ∧ (s.route.anchored = true → s.odo.positionValid = true → computed ≠ [] →
          ∃ c, t.route.commit = some c
            ∧ (∀ i ∈ computed, ∃ p, t.cars[i].lastLookAhead = some p ∧ p ≤ c)
            ∧ (∀ c₀, s.route.commit = some c₀ → c₀ ≤ c)
            ∧ (s.route.commit = some c ∨ ∃ i ∈ computed, t.cars[i].lastLookAhead = some c))
      ∧ (s.route.anchored = true → s.odo.positionValid = true → computed ≠ [] →
          ∃ lead, (0 ∈ computed → t.cars[(0 : CarId)].lastLookAhead = some lead)
            ∧ (0 ∉ computed → (∃ i ∈ computed, t.cars[i].lastLookAhead = some lead)
              ∧ ∀ i ∈ computed, ∃ p, t.cars[i].lastLookAhead = some p ∧ p ≤ lead)
            ∧ t.route.lastLead = some lead
            ∧ t.route.lowLatch = (s.route.lowLatch || decide (s.route.endChainage - lead < s.unit.trainSet.lowWater))
            ∧ t.route.exhaustedLatch = (s.route.exhaustedLatch || decide (s.route.endChainage ≤ lead))
            ∧ (s.CarsSound → s.ctl.Reports t.ctl [] (s.frameNotices t.cars ++ s.leadNotices lead)))
      ∧ (s.route.anchored = false ∨ s.odo.positionValid = false ∨ computed = [] → t.route = s.route
          ∧ (s.CarsSound → s.ctl.Reports t.ctl [] (s.frameNotices t.cars)))
      ∧ t.unit = { s.unit with mode :=
          if s.unit.mode = .draining ∧ (∀ i ∈ f.configured, t.cars[i].state.drained = true) then .config
          else s.unit.mode }
      ∧ t = { f with
          cars := t.cars, unit := t.unit, ctl := t.ctl
          sup := { s.sup with suspended := t.sup.suspended }
          route := { s.route with
            commit := t.route.commit, lastLead := t.route.lastLead, lowLatch := t.route.lowLatch
            exhaustedLatch := t.route.exhaustedLatch } }

/-- RESUME of a named car: BAD_CAR, NOT_LATCHED and CAUSE_ACTIVE in this order, else the car goes CENTRED and its
latch reason is absent; with 0xFF every LATCHED car whose cause has ended is released, and counted (R104, R105). -/
def Obligations.ResumeReleasesLatchedCars : Prop :=
  ∀ (tag : Byte) (s : State), s.ready → s.CarsSound →
    (∀ car : Byte, car ≠ 0xFF → s.unit.settings.carCount ≤ car.toNat ∨ 8 ≤ car.toNat →
      exec (.resume tag car) s = .next (s.replied ⟨0x8C, tag, .badCar, []⟩))
    ∧ (∀ (car : Byte) (i : CarId), i.val = car.toNat → i.val < s.unit.settings.carCount →
      let active := s.cars[i].latchReason = some .driveFault ∧ s.cars[i].driveFault = true
      (s.cars[i].state ≠ .latched → exec (.resume tag car) s = .next (s.replied ⟨0x8C, tag, .notLatched, []⟩))
      ∧ (s.cars[i].state = .latched → active →
        exec (.resume tag car) s = .next (s.replied ⟨0x8C, tag, .causeActive, []⟩))
      ∧ (s.cars[i].state = .latched → ¬ active → ∃ t, exec (.resume tag car) s = .next t
        ∧ t = { s with
            cars := s.cars.set i { s.cars[i].into .centred with latchReason := none }, ctl := t.ctl }
        ∧ s.ctl.Reports t.ctl [⟨0x8C, tag, .ok, [1]⟩] [s.carNotice i .centred .resumeRequest]))
    ∧ (let freed := s.configured.filter (fun i => s.cars[i].releasable)
      ∃ t, exec (.resumeAll tag) s = .next t
        ∧ t = { s with cars := t.cars, ctl := t.ctl }
        ∧ (∀ i : CarId, t.cars[i]
            = if i ∈ freed then { s.cars[i].into .centred with latchReason := none } else s.cars[i])
        ∧ s.ctl.Reports t.ctl [⟨0x8C, tag, .ok, [BitVec.ofNat 8 freed.length]⟩]
            (freed.map (fun i => s.carNotice i .centred .resumeRequest)))

/-! ## Modes and parameter sets -/

/-- SET_MODE RUN by Table 9-5, and SET_MODE CONFIG: from RUN the mode becomes DRAINING, each TRACKING car whose
drain test holds goes RETURNING, and a drain already complete makes the mode CONFIG in the same event (R99, R100,
R166 to R169). -/
def Obligations.ModeSet : Prop :=
  ∀ (tag : Byte) (s : State), s.ready → s.CarsSound →
    (s.unit.mode = .config → s.unit.settings.carCount = 0 →
      exec (.setModeRun tag) s = .next (s.replied ⟨0x85, tag, .noTrain, []⟩))
    ∧ (s.unit.mode = .config → s.unit.settings.carCount ≠ 0 → s.odo.positionValid = false →
      exec (.setModeRun tag) s = .next (s.replied ⟨0x85, tag, .noPosition, []⟩))
    ∧ (s.unit.mode = .config → s.unit.settings.carCount ≠ 0 → s.odo.positionValid = true →
      ∃ t, exec (.setModeRun tag) s = .next t
        ∧ t = { s with unit := { s.unit with mode := .run }, ctl := t.ctl }
        ∧ s.ctl.Reports t.ctl [⟨0x85, tag, .ok, [1]⟩] [s.modeNotice .run .config])
    ∧ (s.unit.mode = .run → exec (.setModeRun tag) s = .next (s.replied ⟨0x85, tag, .ok, [1]⟩))
    ∧ (s.unit.mode = .draining → exec (.setModeRun tag) s = .next (s.replied ⟨0x85, tag, .wrongMode, []⟩))
    ∧ (s.unit.mode = .config → exec (.setModeConfig tag) s = .next (s.replied ⟨0x85, tag, .ok, [0]⟩))
    ∧ (s.unit.mode = .draining → exec (.setModeConfig tag) s = .next (s.replied ⟨0x85, tag, .ok, [2]⟩))
    ∧ (s.unit.mode = .run →
      let drained := allCars.filter (fun i => s.cars[i].state == .tracking && s.mustDrain s.cars[i])
      let complete := ∀ i : CarId, i.val < s.unit.settings.carCount → s.cars[i].state.drained = true
      ∃ t, exec (.setModeConfig tag) s = .next t
        ∧ t = { s with cars := t.cars, unit := t.unit, ctl := t.ctl }
        ∧ (∀ i : CarId, t.cars[i] = if i ∈ drained then s.cars[i].into .returning else s.cars[i])
        ∧ (complete → t.unit = { s.unit with mode := .config }
          ∧ s.ctl.Reports t.ctl [⟨0x85, tag, .ok, [0]⟩] [s.modeNotice .draining .run, s.modeNotice .config .draining])
        ∧ (¬ complete → t.unit = { s.unit with mode := .draining }
          ∧ s.ctl.Reports t.ctl [⟨0x85, tag, .ok, [2]⟩]
            (s.modeNotice .draining .run :: drained.map (fun i => s.carNotice i .returning .drain))))

/-- CONFIGURE_TRAIN: refused outside CONFIG, then by its first bad field; carried out it replaces the static
settings, an offset at CAR_COUNT or above by 0, makes the cars below the new count part of the train, drops the
others, and forgets what the master and the Supervisor held for those; the cars made part of the train are first
polled in the next cycle that starts (R106, R113, R170, R171, Table 9-2). That a waiting turn of such a car is passed
over is the model's choice (log 35). -/
def Obligations.TrainConfigured : Prop :=
  ∀ (tag : Byte) (p : TrainPayload) (s : State), s.ready →
    (s.unit.mode ≠ .config → exec (.configureTrain tag p) s = .next (s.replied ⟨0x82, tag, .wrongMode, []⟩))
    ∧ (∀ n, s.unit.mode = .config → ¬ p.FieldGood n → (∀ m, m < n → p.FieldGood m) →
      exec (.configureTrain tag p) s = .next (s.replied ⟨0x82, tag, .outOfRange, [BitVec.ofNat 8 n]⟩))
    ∧ (s.unit.mode = .config → (∀ n, p.FieldGood n) →
      let count := p.carCount.toNat
      let enters := fun i : CarId => i.val < count && s.cars[i].state == .offline
      let leaves := fun i : CarId => decide (count ≤ i.val) && s.cars[i].state != .offline
      let reaction := fun code : Byte => if code = 0 then Reaction.centreAndContinue else .centreAndLatch
      ∃ t, exec (.configureTrain tag p) s = .next t
        ∧ t = { s with
            cars := t.cars, link := t.linkLeaving enters { s.link with drives := t.link.drives }
            sup := { t.sup with mismatches := s.sup.mismatches.filter (fun m => !leaves m.car) }
            unit := { s.unit with settings :=
              ⟨count, t.unit.settings.offsets, p.dppA.toNat, p.dppB.toNat, p.odoLimit.toNat, p.tiltMax.toNat,
                p.fixWindow.toNat, p.silenceTime.toNat, if p.silenceReaction = 0 then .none else .centre,
                reaction p.driveFaultReaction, reaction p.supervisionReaction, p.noticeThreshold.toNat,
                p.quietTime.toNat, p.absoluteTime.toNat⟩ }
            ctl := t.ctl }
        ∧ (∀ i : CarId,
            t.unit.settings.offsets[i] = (if i.val < count then p.offsets[i].toNat else 0)
            ∧ t.cars[i] = (if enters i then
                { s.cars[i].into .centred with
                  theta := 0, omega := 0, limit := p.tiltMax.toNat, driveFault := false, supervision := false
                  healthReduce := false, latchReason := none, lastPosition := none, lastLookAhead := none }
              else if leaves i then
                { s.cars[i].into .offline with
                  driveFault := false, supervision := false, healthReduce := false, latchReason := none
                  lastPosition := none, lastLookAhead := none }
              else s.cars[i])
            ∧ t.link.drives[i] = (if leaves i then ⟨s.link.drives[i].sequence, 0, false, 0, none⟩
              else s.link.drives[i])
            ∧ t.sup.persistence[i] = (if leaves i then 0 else s.sup.persistence[i])
            ∧ t.sup.suspended[i] = (if leaves i then false else s.sup.suspended[i]))
        ∧ s.ctl.Reports t.ctl [⟨0x82, tag, .ok, []⟩]
            ((allCars.filter (fun i => enters i || leaves i)).map
              (fun i => s.carNotice i (if enters i then .centred else .offline) .configure)))

/-- SET_TILT_LAW: refused by its first bad field; carried out it replaces the staged law, raises the generation,
and is taken at once by every record in CONFIG, and otherwise by those at a quiet point that are neither TRACKING
nor RETURNING, with a notice for each configured car (R95, R96, R110, R170, R172, Table 9-3). -/
def Obligations.LawStagedAndTaken : Prop :=
  ∀ (tag : Byte) (p : LawPayload) (s : State), s.ready →
    (∀ n, ¬ p.FieldGood n → (∀ m, m < n → p.FieldGood m) →
      exec (.setTiltLaw tag p) s = .next (s.replied ⟨0x83, tag, .outOfRange, [BitVec.ofNat 8 n]⟩))
    ∧ ((∀ n, p.FieldGood n) →
      let g := s.unit.stagedGeneration + 1
      let takes := fun i : CarId => s.unit.mode == .config || (s.cars[i].theta == 0 && s.cars[i].omega == 0
        && s.cars[i].state != .tracking && s.cars[i].state != .returning)
      let law : TiltLaw := ⟨p.k.toNat, p.deadBand.toNat, p.leadTime.toNat, p.tiltDegraded.toNat, p.omegaMax.toNat,
        p.accel.toNat⟩
      ∃ t, exec (.setTiltLaw tag p) s = .next t
        ∧ t = { s with
            cars := t.cars, unit := { s.unit with stagedLaw := law, stagedGeneration := g }, ctl := t.ctl }
        ∧ (∀ i : CarId, t.cars[i] = if takes i then { s.cars[i] with law := law, generation := g } else s.cars[i])
        ∧ s.ctl.Reports t.ctl [⟨0x83, tag, .ok, bytes16 g⟩]
            ((allCars.filter (fun i => takes i && s.cars[i].state != .offline)).map
              (fun i => s.notice .paramApplied (some i) g (BitVec.ofNat 16 s.cars[i].state.code))))

/-- SET_TRAIN_SET: refused by its first bad field; carried out it replaces the train set and changes nothing else,
but that a rise of MATCH_WINDOW empties the mismatch table (R141, R170, R173, Table 9-4). -/
def Obligations.TrainSetReplaced : Prop :=
  ∀ (tag : Byte) (p : TrainSetPayload) (s : State), s.ready →
    (∀ n, ¬ p.FieldGood n → (∀ m, m < n → p.FieldGood m) →
      exec (.setTrainSet tag p) s = .next (s.replied ⟨0x84, tag, .outOfRange, [BitVec.ofNat 8 n]⟩))
    ∧ ((∀ n, p.FieldGood n) →
      exec (.setTrainSet tag p) s = .next { s.replied ⟨0x84, tag, .ok, []⟩ with
        unit := { s.unit with trainSet := ⟨p.vMin.toNat, p.supThreshold.toNat, p.supCount.toNat, p.blankDist.toNat,
          p.matchWindow.toNat, p.lowWater.toNat⟩ }
        sup := if s.unit.trainSet.matchWindow < p.matchWindow.toNat then { s.sup with mismatches := [] } else s.sup })

/-! ## The actuator link -/

/-- An expiry of the poll cycle timer starts a cycle over the configured cars that are not ISOLATED, the first
car's turn at once, or, with a cycle in progress, is counted as an overrun and leaves a cycle pending (R113,
R114). -/
def Obligations.PollCycleStartsOrOverruns : Prop :=
  ∀ s : State, s.now ≤ s.link.pollStart + 20000 →
    let e := s.link.pollStart + 20000
    let cars := s.configured.filter (fun i => s.cars[i].state != .isolated && s.cars[i].state != .offline)
    (s.link.cycle = none → exec .pollCycleExpiry s = .next { s with
        now := e
        link := { s.link with
          pollStart := e
          cycle := match cars with
            | [] => none
            | i :: rest => some ⟨cars, i, rest, .waiting e⟩ } })
    ∧ (∀ c, s.link.cycle = some c → exec .pollCycleExpiry s = .next { s with
        now := e
        link := { s.link with
          pollStart := e, overruns := min 65535 (s.link.overruns + 1), cyclePending := true } })

/-- In a car's turn, once the line has been idle for 20 µs, and within 4,000 µs of the turn, the setpoint is composed
from the car as it stands and its sequence kept; at its last bit the reply window opens (R115, R116, R117, R196).
Bytes received with no reception in progress and no window open, or past its 1,000 µs, are discarded and keep the line
busy; while the master transmits it receives none (R117). That the 20 µs lie within the turn is DEDUCED (log 13), the
instants of bytes and the operand `busy` are the model's (log 14, log 36), and a car that has left or been isolated
while its turn waits is sent LOCK all the same (log 18, DEDUCED). A setpoint or a limit that the line rules out, and a command outside its
phase, changes nothing (log 4). -/
def Obligations.SetpointComposedAndSent : Prop :=
  (∀ (turnAt busy : Nat) (c : PollCycle) (s : State), s.link.cycle = some c → c.phase = .waiting turnAt →
      let sendAt := max (turnAt + busy) s.link.lineIdleFrom + 20
      (max turnAt s.link.lineIdleFrom + 20 ≤ turnAt + 4000 → exec .turnWaitLimit s = .next s)
      ∧ (turnAt + 4000 < sendAt → exec (.setpointSend busy) s = .next s)
      ∧ (sendAt ≤ turnAt + 4000 → s.now ≤ sendAt →
        let i := c.current
        let sequence := s.link.drives[i].sequence + 1
        let track := s.unit.mode != .config && (s.cars[i].state == .tracking || s.cars[i].state == .returning
          || s.cars[i].state == .centred)
        exec (.setpointSend busy) s = .next { s with
          now := sendAt
          link := { s.link with
            drives := s.link.drives.set i { s.link.drives[i] with sequence := sequence }
            cycle := some { c with phase := .sending sendAt ⟨i, track,
              BitVec.ofInt 16 (roundCdeg s.cars[i].theta), BitVec.ofInt 16 s.cars[i].omega, sequence⟩ } } }))
    ∧ (∀ (sentAt : Nat) (f : SetpointFrame) (c : PollCycle) (s : State), s.link.cycle = some c →
      c.phase = .sending sentAt f → s.now ≤ sentAt + 90 →
      exec .setpointSent s = .next { s with
        now := sentAt + 90
        link := { s.link with cycle := some { c with phase := .window (sentAt + 90) f.sequence } } })
    ∧ (∀ s : State,
      ((∀ c turnAt, s.link.cycle = some c → c.phase ≠ .waiting turnAt) →
        (∀ busy, exec (.setpointSend busy) s = .next s) ∧ exec .turnWaitLimit s = .next s)
      ∧ ((∀ c sentAt f, s.link.cycle = some c → c.phase ≠ .sending sentAt f) → exec .setpointSent s = .next s)
      ∧ ((∀ c openedAt q, s.link.cycle = some c → c.phase ≠ .window openedAt q) →
        (∀ c openedAt q held, s.link.cycle = some c → c.phase ≠ .receiving openedAt q held) →
        exec .replyWindowClose s = .next s))
    ∧ (∀ (dt : Nat) (first : RxByte) (more : List RxByte) (s : State),
      let ends := s.now + dt + (more.map (fun b => b.pause + 10)).sum
      ((∀ c sentAt f, s.link.cycle = some c → c.phase ≠ .sending sentAt f) →
        (∀ c openedAt q held, s.link.cycle = some c → c.phase ≠ .receiving openedAt q held) →
        (∀ c openedAt q, s.link.cycle = some c → c.phase = .window openedAt q → openedAt + 1000 < s.now + dt) →
        exec (.statusReception dt (first :: more)) s
          = .next { s with now := ends, link := { s.link with lineIdleFrom := ends } })
      ∧ (∀ c sentAt f, s.link.cycle = some c → c.phase = .sending sentAt f →
        exec (.statusReception dt (first :: more)) s = .next { s with now := ends }))

/-- A turn whose line is not idle in time, a reply window that closes, and a corrupt reception: six points of
health, with the warning at 40 and HEALTH_REDUCE at 80; isolation at 160; for a PROBING car the failed probe; nothing
for a car that is OFFLINE or ISOLATED. Then the next turn comes (R102, R115, R117, R119 to R123, R127). That MODE
comes last when the isolation completes a drain is DEDUCED (log 12). The commands that end a reception, its first
byte counted up to and including 1,000 µs, and its end at the end of a byte are the model's (log 14, log 36). The turns
to come hold no listed car that has left and qualified again since (R113, R126, R171); that a waiting turn of such a
car is passed over when it qualifies, and does not end here, is the model's choice (log 35). -/
def Obligations.FailedTransactionCounted : Prop :=
  ∀ (cmd : Instr) (corrupt : Bool) (ends idleFrom : Nat) (c : PollCycle) (s : State), s.link.cycle = some c →
    (cmd = .turnWaitLimit ∧ corrupt = false ∧ idleFrom = s.link.lineIdleFrom
        ∧ (∃ turnAt, c.phase = .waiting turnAt ∧ ends = turnAt + 4000
          ∧ turnAt + 4000 < max turnAt s.link.lineIdleFrom + 20)
      ∨ cmd = .replyWindowClose ∧ corrupt = false ∧ idleFrom = s.link.lineIdleFrom
        ∧ (∃ opened q, c.phase = .window opened q ∧ ends = opened + 1000)
      ∨ corrupt = true ∧ ∃ q received, s.ReceptionEnds c cmd q received ends idleFrom
        ∧ judgeReception c.current q received = .corrupt) →
    s.now ≤ ends →
    let i := c.current
    let r := s.cars[i]
    let d := s.link.drives[i]
    let h := d.health + 6
    let code : BitVec 16 := if corrupt then 1 else 0
    let link : ActuatorLink := { s.link with lineIdleFrom := idleFrom }
    ∃ t, exec cmd s = .next t
      ∧ (r.state.polled = false → t = { s with now := ends, link := t.linkAfter c link })
      ∧ (r.state.polled = true → r.state ≠ .probing → h < 160 →
          t = { s with
            now := ends
            cars := s.cars.set i { r with healthReduce := decide (80 ≤ h) }
            link := t.linkAfter c { link with
              drives := s.link.drives.set i { d with health := h, warned := d.warned || decide (40 ≤ h) } }
            ctl := t.ctl }
          ∧ s.ctl.Reports t.ctl [] (if 40 ≤ h ∧ d.warned = false then
              [s.notice .healthWarning (some i) (BitVec.ofNat 16 h) 0] else []))
      ∧ (r.state.polled = true → r.state ≠ .probing → 160 ≤ h →
          t = { s with
            now := ends
            cars := s.cars.set i { r.into .isolated with
              theta := 0, omega := 0, latchReason := none, healthReduce := true }
            link := t.linkAfter c { link with
              drives := s.link.drives.set i { d with health := 160, probing := 0 } }
            sup := { s.sup with persistence := s.sup.persistence.set i 0 }
            unit := t.unit, ctl := t.ctl }
          ∧ (s.drainEnds t.cars → t.unit = { s.unit with mode := .config }
            ∧ s.ctl.Reports t.ctl [] [s.carNotice i .isolated .isolation, s.notice .isolated (some i) 0 code,
              s.modeNotice .config .draining])
          ∧ (¬ s.drainEnds t.cars → t.unit = s.unit
            ∧ s.ctl.Reports t.ctl [] [s.carNotice i .isolated .isolation, s.notice .isolated (some i) 0 code]))
      ∧ (r.state = .probing →
          t = { s with
            now := ends
            cars := s.cars.set i { r.into .isolated with healthReduce := true }
            link := t.linkAfter c { link with
              drives := s.link.drives.set i { d with health := 160, warned := true, probing := 0 } }
            unit := t.unit, ctl := t.ctl }
          ∧ (s.drainEnds t.cars → t.unit = { s.unit with mode := .config }
            ∧ s.ctl.Reports t.ctl [] [s.carNotice i .isolated .probeFailed, s.notice .isolated (some i) 1 code,
              s.modeNotice .config .draining])
          ∧ (¬ s.drainEnds t.cars → t.unit = s.unit
            ∧ s.ctl.Reports t.ctl [] [s.carNotice i .isolated .probeFailed, s.notice .isolated (some i) 1 code]))

/-- The first byte received while the window is open begins the reception; the bytes after it join it, none of them
after 20 µs of idle line, until it holds ten; the window's close changes nothing of it but lets time run on; a run of
bytes is its bytes one after another, so that any event may come between them; and a byte that comes later finds the
reception ended by the idle line (R117, R196). It is good exactly when it has ten bytes, none with a framing error,
that carry the CRC of the first eight, the polled car's index, the echoed sequence, a drive state of the three, and a
fault code of at most 15; it yields the values the report keeps (R118). How bytes and the idle line are commanded is
the model's (log 14), and so is a byte's instant at the end of its stop bit (log 36). -/
def Obligations.ReceptionGoodExactly : Prop :=
  (∀ (dt openedAt : Nat) (q : Byte) (held : List RxByte) (b : RxByte) (c : PollCycle) (s : State),
      s.link.cycle = some c →
      let byteHeld := fun bytes : List RxByte => { s with
        now := s.now + dt
        link := { s.link with
          lineIdleFrom := s.now + dt, cycle := some { c with phase := .receiving openedAt q bytes } } }
      (c.phase = .window openedAt q → s.now + dt ≤ openedAt + 1000 →
        exec (.statusReception dt [b]) s = .next (byteHeld [b]))
      ∧ (c.phase = .receiving openedAt q held → held.length < 9 → s.now + dt < s.link.lineIdleFrom + 30 →
        exec (.statusReception dt [b]) s = .next (byteHeld (held ++ [b])))
      ∧ (c.phase = .receiving openedAt q held →
        exec .replyWindowClose s = .next { s with now := max s.now (openedAt + 1000) })
      ∧ (c.phase = .receiving openedAt q held → s.link.lineIdleFrom + 30 ≤ s.now + dt →
        ∀ t, exec (.statusReception 0 []) s = .next t →
          exec (.statusReception dt [b]) s = exec (.statusReception (s.now + dt - t.now) [b]) t))
    ∧ (∀ (dt : Nat) (b : RxByte) (before after : List RxByte) (s t : State), before ≠ [] →
      exec (.statusReception dt before) s = .next t →
        exec (.statusReception dt (before ++ b :: after)) s = exec (.statusReception (b.pause + 10) (b :: after)) t)
    ∧ (∀ (dt : Nat) (s : State),
      (∀ c openedAt q held, s.link.cycle = some c → c.phase ≠ .receiving openedAt q held) →
        exec (.statusReception dt []) s = .next { s with now := s.now + dt })
    ∧ (∀ (i : CarId) (sequence state : Byte) (report : DriveReport) (bytes : List RxByte),
      (judgeReception i sequence bytes = .good state report ↔
        ∃ t₁ t₀ l₁ l₀ code c₁ c₀ : Byte,
          bytes.map RxByte.value
              = [BitVec.ofNat 8 i.val, sequence, state, t₁, t₀, l₁, l₀, code, c₁, c₀]
          ∧ (∀ b ∈ bytes, b.framingError = false)
          ∧ c₁ ++ c₀ = crc16 [BitVec.ofNat 8 i.val, sequence, state, t₁, t₀, l₁, l₀, code]
          ∧ state.toNat ≤ 2 ∧ code.toNat ≤ 15
          ∧ report.tilt = (t₁ ++ t₀).toInt
          ∧ report.lateral = max (-9999) (min 9999 (l₁ ++ l₀).toInt)
          ∧ report.faultCode = code.toNat)
      ∧ (judgeReception i sequence bytes ≠ .miss)
      ∧ (bytes.length < 10 → judgeReception i sequence bytes = .corrupt))

/-- A good reply is applied to its car as the car stands, and the next turn comes. A car that is OFFLINE or ISOLATED
takes nothing of it. Else the counter falls by 1, the warning is armed again at 0, the reply becomes the last good
one, and DRIVE_FAULT follows it, against the fault code of the good reply before; then a reply of FOLLOWING or
LOCKED from a car that was not PROBING goes to the Supervisor, and a FAULT reply does not (R119 to R122, R124, R125,
R131). The commands that end a reception and the instants of its bytes are the model's (log 14, log 36); the code 0 for
no good reply before is the model's (log 32). The turns to come hold no listed car that has left and qualified again
since (R113, R126, R171); a waiting turn of such a car is log 35, the model's choice. -/
def Obligations.GoodReplyApplied : Prop :=
  ∀ (cmd : Instr) (ends idleFrom : Nat) (received : List RxByte) (q state : Byte) (report : DriveReport)
    (c : PollCycle) (s : State),
    s.link.cycle = some c → s.ReceptionEnds c cmd q received ends idleFrom →
    judgeReception c.current q received = .good state report →
    let i := c.current
    let ended : State := { s with now := ends, link := { s.link with lineIdleFrom := idleFrom } }
    let done := ended.applyOutcome i (.good state report)
    let r := s.cars[i]
    let d := s.link.drives[i]
    let h := d.health - 1
    let previous := match d.lastGood with | some g => g.faultCode | none => 0
    let heard : State := { ended with
      cars := s.cars.set i { r with healthReduce := decide (80 ≤ h) }
      link := { ended.link with
        drives := s.link.drives.set i { d with health := h, warned := d.warned && h != 0, lastGood := some report } } }
    let followed := heard.followFault i state report.faultCode previous
    exec cmd s = .next { done with link := done.linkAfter c done.link }
    ∧ (r.state.polled = false → done = ended)
    ∧ (r.state.polled = true → r.state ≠ .probing →
      done = if state = 2 then followed else followed.superviseReply i report)

/-- The DRIVE_FAULT member follows the good replies, `previous` being the fault code of the good reply before (tied
to the car's last good reply in GoodReplyApplied): the onset with its reaction and notice, each change of the fault
code, and the clearing (R90, R124). A car-level cause with its reaction: a TRACKING car goes RETURNING, a CENTRED car
LATCHED under CENTRE_AND_LATCH, no other car changes its state; under CENTRE_AND_LATCH the latch reason becomes the
cause, but that a DRIVE_FAULT held by a RETURNING or LATCHED car stays (R91, R92, Table 5-5). -/
def Obligations.DriveFaultFollowsReplies : Prop :=
  (∀ (i : CarId) (state : Byte) (code previous : Nat) (s : State), s.CarsSound →
    let r := s.cars[i]
    let t := s.followFault i state code previous
    let caused := CarChannel.caused { r with driveFault := true } .driveFault s.unit.settings.driveFaultReaction
    (state = 2 → r.driveFault = false →
        t = { s with cars := s.cars.set i caused, ctl := t.ctl }
        ∧ s.ctl.Reports t.ctl [] ((if caused.state = r.state then [] else [s.carNotice i caused.state .driveFault])
            ++ [s.notice .driveFault (some i) (BitVec.ofNat 16 code) 1]))
    ∧ (state = 2 → r.driveFault = true →
        t = { s with ctl := t.ctl }
        ∧ s.ctl.Reports t.ctl [] (if code = previous then []
            else [s.notice .driveFault (some i) (BitVec.ofNat 16 code) 1]))
    ∧ (state ≠ 2 → r.driveFault = true →
        t = { s with cars := s.cars.set i { r with driveFault := false }, ctl := t.ctl }
        ∧ s.ctl.Reports t.ctl [] [s.notice .driveFault (some i) (BitVec.ofNat 16 previous) 0])
    ∧ (state ≠ 2 → r.driveFault = false → t = s))
    ∧ (∀ (i : CarId) (cause : LatchReason) (reaction : Reaction) (s : State),
      let r := s.cars[i]
      let t := s.carCause i cause reaction
      let latches := reaction = .centreAndLatch
      (∀ j : CarId, j ≠ i → t.cars[j] = s.cars[j])
      ∧ (r.state = .tracking → t.cars[i] = { r with
          state := .returning, target := 0, reason := .forcedZero
          latchReason := if latches then some cause else r.latchReason })
      ∧ (r.state = .centred → latches → t.cars[i] = { r with
          state := .latched, target := 0, reason := .forcedZero, latchReason := some cause })
      ∧ (r.state = .returning ∨ r.state = .latched → latches →
          (r.latchReason = none → t.cars[i] = { r with latchReason := some cause })
          ∧ (r.latchReason = some .supervision → t.cars[i] = { r with latchReason := some cause })
          ∧ (r.latchReason = some .driveFault → t.cars[i] = r))
      ∧ (r.state = .centred ∨ r.state = .returning ∨ r.state = .latched → ¬ latches → t.cars[i] = r)
      ∧ (r.state = .offline ∨ r.state = .isolated ∨ r.state = .probing → t.cars[i] = r))

/-- READMIT of an ISOLATED car starts its probe, after BAD_CAR and NOT_ISOLATED, and a cycle in progress does not
address the car; sixteen consecutive LOCKED replies within 50 cdeg end it CENTRED, and any other good reply starts the
count again, a FAULT reply with DRIVE_FAULT followed as in service (R103, R120, R121, R124 to R127). The code 0 for no
good reply before is the model's (log 32), and so is the passing over of a waiting turn (log 35). -/
def Obligations.CarReadmittedAndProbed : Prop :=
  (∀ (tag car : Byte) (s : State), s.ready → s.CarsSound →
      (s.unit.settings.carCount ≤ car.toNat ∨ 8 ≤ car.toNat →
        exec (.readmit tag car) s = .next (s.replied ⟨0x8D, tag, .badCar, []⟩))
      ∧ (∀ i : CarId, i.val = car.toNat → i.val < s.unit.settings.carCount →
        (s.cars[i].state ≠ .isolated →
          exec (.readmit tag car) s = .next (s.replied ⟨0x8D, tag, .notIsolated, []⟩))
        ∧ (s.cars[i].state = .isolated → ∃ t, exec (.readmit tag car) s = .next t
          ∧ t = { s with
              cars := s.cars.set i { s.cars[i].into .probing with healthReduce := false }
              link := t.linkLeaving (fun j => j == i) { s.link with
                drives := s.link.drives.set i { s.link.drives[i] with health := 0, warned := false, probing := 0 } }
              ctl := t.ctl }
          ∧ s.ctl.Reports t.ctl [⟨0x8D, tag, .ok, []⟩] [s.carNotice i .probing .readmit])))
    ∧ (∀ (i : CarId) (state : Byte) (report : DriveReport) (s : State), s.CarsSound →
      s.cars[i].state = .probing →
      let r := s.cars[i]
      let d := s.link.drives[i]
      let h := d.health - 1
      let previous := match d.lastGood with | some g => g.faultCode | none => 0
      let drive : Drive := { d with health := h, warned := d.warned && h != 0, lastGood := some report }
      let heard : State := { s with
        cars := s.cars.set i { r with healthReduce := decide (80 ≤ h) }
        link := { s.link with drives := s.link.drives.set i drive } }
      let followed := heard.followFault i state report.faultCode previous
      let t := s.applyOutcome i (.good state report)
      let locked := state = 1 ∧ report.tilt.natAbs ≤ 50
      let counted := fun n : Nat => { followed.link with drives := s.link.drives.set i { drive with probing := n } }
      followed.cars[i].state = .probing
      ∧ (¬ (locked ∧ 15 ≤ d.probing) →
          t = { followed with link := counted (if locked then d.probing + 1 else 0) })
      ∧ (locked ∧ 15 ≤ d.probing →
          t = { followed with
            cars := followed.cars.set i (followed.cars[i].into .centred), link := counted 0, ctl := t.ctl }
          ∧ followed.ctl.Reports t.ctl [] [followed.carNotice i .centred .probePassed]))

/-! ## Lateral supervision -/

/-- What the Supervisor does with a reply it is handed: not evaluated or blanked, the count becomes 0; evaluated,
the residual against the prediction resets it, raises it, or at SUP_COUNT confirms a mismatch (R131 to R134). -/
def Obligations.ReplySupervised : Prop :=
  ∀ (i : CarId) (report : DriveReport) (s : State),
    let p := s.carPosition i
    let quiet : State := { s with sup := { s.sup with persistence := s.sup.persistence.set i 0 } }
    (s.odo.positionValid = false ∨ s.gateOpen = false → s.superviseReply i report = quiet)
    ∧ (s.sup.suspended[i] = true ∨ s.route.governing p = none → s.superviseReply i report = quiet)
    ∧ (∀ g, s.route.governing p = some g → (g.exempt = true ∨ p < g.start + s.unit.trainSet.blankDist) →
        s.superviseReply i report = quiet)
    ∧ (∀ g, s.odo.positionValid = true → s.gateOpen = true → s.sup.suspended[i] = false →
        s.route.governing p = some g → g.exempt = false → g.start + s.unit.trainSet.blankDist ≤ p →
        let predicted := lateralAcceleration s.speed (g.curvature p) (g.cant p)
          - (9807 * report.tilt * 1745).tdiv 10000000
        let residual := report.lateral - predicted
        let n := s.sup.persistence[i] + 1
        (residual.natAbs ≤ s.unit.trainSet.supThreshold → s.superviseReply i report = quiet)
        ∧ (s.unit.trainSet.supThreshold < residual.natAbs → n < s.unit.trainSet.supCount →
            s.superviseReply i report
              = { s with sup := { s.sup with persistence := s.sup.persistence.set i n } })
        ∧ (s.unit.trainSet.supThreshold < residual.natAbs → s.unit.trainSet.supCount ≤ n →
            s.superviseReply i report = s.confirmMismatch i p residual predicted))

/-- A confirmed mismatch: the car is suspended and reacts, its notice is posted, and the table is consulted: a
record of another car within the window, the oldest of them, raises ROUTE_DOUBT once and centres the train; a near
record of the car's own leaves the table; otherwise the record joins, the oldest of four making room (R41, R135,
R138, R139, R143, R147). -/
def Obligations.MismatchConfirmed : Prop :=
  ∀ (i : CarId) (p : Nat) (residual predicted : Int) (s : State), s.CarsSound →
    let t := s.confirmMismatch i p residual predicted
    let r := s.cars[i]
    let caused := CarChannel.caused { r with supervision := true } .supervision s.unit.settings.supervisionReaction
    let reacted : State := { s with
      cars := s.cars.set i caused
      sup := { s.sup with persistence := s.sup.persistence.set i 0, suspended := s.sup.suspended.set i true } }
    let told := (if caused.state = r.state then [] else [s.carNotice i caused.state .supervision])
      ++ [s.notice .mismatch (some i) (held16 residual) (held16 predicted)]
    let near := fun m : Mismatch => max m.chainage p - min m.chainage p ≤ s.unit.trainSet.matchWindow
    (∀ (older newer : List Mismatch) (m : Mismatch), s.sup.mismatches = older ++ m :: newer →
        (∀ o ∈ older, o.car = i ∨ ¬ near o) → m.car ≠ i → near m →
        (s.route.doubt = true → t = { reacted with ctl := t.ctl } ∧ s.ctl.Reports t.ctl [] told)
        ∧ (s.route.doubt = false →
            t = { reacted with
              route := { s.route with doubt := true }, cars := reacted.cars.map CarChannel.centred, ctl := t.ctl }
            ∧ s.ctl.Reports t.ctl [] (told
              ++ s.notice .routeDoubt (some i) (BitVec.ofNat 16 m.car.val) (held16 ((p : Int) - m.chainage))
              :: reacted.trackingCars.map (fun j => s.carNotice j .returning .routeDoubt))))
    ∧ ((∀ m ∈ s.sup.mismatches, near m → m.car = i) → (∃ m ∈ s.sup.mismatches, near m) →
        t = { reacted with ctl := t.ctl } ∧ s.ctl.Reports t.ctl [] told)
    ∧ ((∀ m ∈ s.sup.mismatches, ¬ near m) →
        t = { reacted with
          sup := { reacted.sup with mismatches :=
            (if s.sup.mismatches.length < 4 then s.sup.mismatches else s.sup.mismatches.tail) ++ [⟨p, i⟩] }
          ctl := t.ctl }
        ∧ s.ctl.Reports t.ctl [] told)

/-! ## Conditions -/

/-- INHIBIT follows the filtered level, which changes at the third consecutive sample of the other level: its
onset is reported and sends every TRACKING car to RETURNING; its end is reported and moves no car (R91, R150 to
R152). That samples of one level come as one command is the model's choice (log 19). -/
def Obligations.InhibitFollowsTheFilter : Prop :=
  ∀ (dt n : Nat) (s : State), 1 ≤ n → s.CarsSound →
    let run := s.mon.inhibitRun + n
    (s.mon.inhibitLevel = true → exec (.inhibitSet dt n) s
        = .next { s with now := s.now + dt, mon := { s.mon with inhibitRun := 0 } })
    ∧ (s.mon.inhibitLevel = false → run < 3 → exec (.inhibitSet dt n) s
        = .next { s with now := s.now + dt, mon := { s.mon with inhibitRun := run } })
    ∧ (s.mon.inhibitLevel = false → 3 ≤ run → ∃ t, exec (.inhibitSet dt n) s = .next t
        ∧ t = { s with
            now := s.now + dt
            mon := { s.mon with inhibitLevel := true, inhibitRun := 0, inhibit := true }
            cars := s.cars.map CarChannel.centred
            ctl := t.ctl }
        ∧ s.ctl.Reports t.ctl []
            (s.notice .inhibit none 1 0 :: s.trackingCars.map (fun i => s.carNotice i .returning .inhibit)))
    ∧ (s.mon.inhibitLevel = false → exec (.inhibitClear dt n) s
        = .next { s with now := s.now + dt, mon := { s.mon with inhibitRun := 0 } })
    ∧ (s.mon.inhibitLevel = true → run < 3 → exec (.inhibitClear dt n) s
        = .next { s with now := s.now + dt, mon := { s.mon with inhibitRun := run } })
    ∧ (s.mon.inhibitLevel = true → 3 ≤ run → ∃ t, exec (.inhibitClear dt n) s = .next t
        ∧ t = { s with
            now := s.now + dt
            mon := { s.mon with inhibitLevel := false, inhibitRun := 0, inhibit := false }
            ctl := t.ctl }
        ∧ s.ctl.Reports t.ctl [] [s.notice .inhibit none 0 0])

/-- A window of fewer than 800 crystal periods switches to the internal oscillator, once, with CLOCK_FALLBACK and
its notice; no command but a hardware reset ends it (R154 to R156). -/
def Obligations.ClockFallbackIsLatched : Prop :=
  (∀ (dt periods : Nat) (s : State),
      (s.mon.clockFallback = false → periods < 800 → ∃ t, exec (.clockWindow dt periods) s = .next t
        ∧ t = { s with
            now := s.now + dt, mon := { s.mon with clock := .internal, clockFallback := true }, ctl := t.ctl }
        ∧ s.ctl.Reports t.ctl [] [s.notice .clockFallback none 1 0])
      ∧ (s.mon.clockFallback = true ∨ 800 ≤ periods →
        exec (.clockWindow dt periods) s = .next { s with now := s.now + dt }))
    ∧ (∀ (c : Instr) (s t : State), exec c s = .next t → (∀ b, c ≠ .hardwareReset b) →
        s.mon.clockFallback = true → t.mon.clockFallback = true ∧ t.mon.clock = s.mon.clock)

/-! ## Invariants that every step keeps -/

/-- The route queue stays one chain of at most 64 segments in range, from the head start to the end (R22 to
R24). -/
def Obligations.RouteQueueStaysSound : Prop :=
  ∀ s t : State, step s = .next t → s.route.Sound → t.route.Sound

/-- The mismatch table never holds more than 4 records, nor two records from different cars within MATCH_WINDOW
of each other, and no persistence count reaches the greatest SUP_COUNT. -/
def Obligations.MismatchTableStaysApart : Prop :=
  ∀ s t : State, step s = .next t → s.MismatchSound → t.MismatchSound

/-- The health counter stays within 0 to 160, a car is ISOLATED exactly while it is 160, HEALTH_REDUCE follows it
at 80, the warning latch at 40, and suspension goes with the SUPERVISION member (R90, R120 to R124, R127, R136). -/
def Obligations.HealthStaysSound : Prop :=
  ∀ s t : State, step s = .next t → s.HealthSound → t.HealthSound

/-- In CONFIG no car is TRACKING or RETURNING; a car that is neither rests at 0; only a TRACKING car has a target;
none is TRACKING under a centring cause; every command, rate and target is within its bound, under laws in range
(R64, R74, R75, R86, R91, R100, R166). What holds at RESTART in CONFIG rests on these (log 21). -/
def Obligations.TrainStaysSound : Prop :=
  ∀ s t : State, step s = .next t → s.CarsSound → s.TiltSound → t.CarsSound ∧ t.TiltSound

/-- The odometry stays in its ranges: at most four periods of at most 2,000,000 µs, a remainder below 1 cm, at most
four captures of consecutive sequences, counts of 4 and 8 that do not run together, and channel A selected while
the channels are trusted (R2, R4, R6, R10 to R14). -/
def Obligations.OdometryStaysSound : Prop :=
  ∀ s t : State, step s = .next t → s.OdometrySound → t.OdometrySound

/-- The control link keeps its bounds, the transmitter is idle only with nothing to send, the FIFO holds frames
only while replies or a RESTART hold it, the timers run only for queued notices, and the request hold stands
exactly while the reply of a RESTART is queued (R174, R179, R181, R182, R185 to R189). On the actuator link a reception
in progress holds one to nine bytes (R117). -/
def Obligations.LinkStaysSound : Prop :=
  ∀ s t : State, step s = .next t → s.LinkSound → t.LinkSound

/-- The machine right after reset is sound in every block. -/
def Obligations.ResetIsSound : Prop :=
  State.reset.route.Sound ∧ State.reset.MismatchSound ∧ State.reset.HealthSound ∧ State.reset.CarsSound
    ∧ State.reset.TiltSound ∧ State.reset.OdometrySound ∧ State.reset.LinkSound
end

