-- ==== Sys2Proof/Laws/State.lean ====
section
/-! SUPPORT. What the updates of State leave and change, one lemma for each field. -/

namespace Sys2Proof.Machine

/-! ## `after` -/

@[simp] theorem State.after_now (s : State) (dt : Nat) : (s.after dt).now = s.now + dt := rfl
@[simp] theorem State.after_odo (s : State) (dt : Nat) : (s.after dt).odo = s.odo := rfl
@[simp] theorem State.after_route (s : State) (dt : Nat) : (s.after dt).route = s.route := rfl
@[simp] theorem State.after_gateOpen (s : State) (dt : Nat) : (s.after dt).gateOpen = s.gateOpen := rfl
@[simp] theorem State.after_frameStart (s : State) (dt : Nat) : (s.after dt).frameStart = s.frameStart := rfl
@[simp] theorem State.after_cars (s : State) (dt : Nat) : (s.after dt).cars = s.cars := rfl
@[simp] theorem State.after_link (s : State) (dt : Nat) : (s.after dt).link = s.link := rfl
@[simp] theorem State.after_sup (s : State) (dt : Nat) : (s.after dt).sup = s.sup := rfl
@[simp] theorem State.after_mon (s : State) (dt : Nat) : (s.after dt).mon = s.mon := rfl
@[simp] theorem State.after_unit (s : State) (dt : Nat) : (s.after dt).unit = s.unit := rfl
@[simp] theorem State.after_ctl (s : State) (dt : Nat) : (s.after dt).ctl = s.ctl := rfl
@[simp] theorem State.after_pending (s : State) (dt : Nat) : (s.after dt).pending = s.pending := rfl

/-! ## `runTo` -/

@[simp] theorem State.runTo_now (s : State) (t : Nat) : (s.runTo t).now = max s.now t := rfl
@[simp] theorem State.runTo_odo (s : State) (t : Nat) : (s.runTo t).odo = s.odo := rfl
@[simp] theorem State.runTo_route (s : State) (t : Nat) : (s.runTo t).route = s.route := rfl
@[simp] theorem State.runTo_gateOpen (s : State) (t : Nat) : (s.runTo t).gateOpen = s.gateOpen := rfl
@[simp] theorem State.runTo_frameStart (s : State) (t : Nat) : (s.runTo t).frameStart = s.frameStart := rfl
@[simp] theorem State.runTo_cars (s : State) (t : Nat) : (s.runTo t).cars = s.cars := rfl
@[simp] theorem State.runTo_link (s : State) (t : Nat) : (s.runTo t).link = s.link := rfl
@[simp] theorem State.runTo_sup (s : State) (t : Nat) : (s.runTo t).sup = s.sup := rfl
@[simp] theorem State.runTo_mon (s : State) (t : Nat) : (s.runTo t).mon = s.mon := rfl
@[simp] theorem State.runTo_unit (s : State) (t : Nat) : (s.runTo t).unit = s.unit := rfl
@[simp] theorem State.runTo_ctl (s : State) (t : Nat) : (s.runTo t).ctl = s.ctl := rfl
@[simp] theorem State.runTo_pending (s : State) (t : Nat) : (s.runTo t).pending = s.pending := rfl

/-! ## `setCar` -/

@[simp] theorem State.setCar_now (s : State) (i : CarId) (c : CarChannel) : (s.setCar i c).now = s.now := rfl
@[simp] theorem State.setCar_odo (s : State) (i : CarId) (c : CarChannel) : (s.setCar i c).odo = s.odo := rfl
@[simp] theorem State.setCar_route (s : State) (i : CarId) (c : CarChannel) : (s.setCar i c).route = s.route := rfl
@[simp] theorem State.setCar_gateOpen (s : State) (i : CarId) (c : CarChannel) : (s.setCar i c).gateOpen = s.gateOpen := rfl
@[simp] theorem State.setCar_frameStart (s : State) (i : CarId) (c : CarChannel) : (s.setCar i c).frameStart = s.frameStart := rfl
@[simp] theorem State.setCar_cars (s : State) (i : CarId) (c : CarChannel) : (s.setCar i c).cars = s.cars.set i c := rfl
@[simp] theorem State.setCar_link (s : State) (i : CarId) (c : CarChannel) : (s.setCar i c).link = s.link := rfl
@[simp] theorem State.setCar_sup (s : State) (i : CarId) (c : CarChannel) : (s.setCar i c).sup = s.sup := rfl
@[simp] theorem State.setCar_mon (s : State) (i : CarId) (c : CarChannel) : (s.setCar i c).mon = s.mon := rfl
@[simp] theorem State.setCar_unit (s : State) (i : CarId) (c : CarChannel) : (s.setCar i c).unit = s.unit := rfl
@[simp] theorem State.setCar_ctl (s : State) (i : CarId) (c : CarChannel) : (s.setCar i c).ctl = s.ctl := rfl
@[simp] theorem State.setCar_pending (s : State) (i : CarId) (c : CarChannel) : (s.setCar i c).pending = s.pending := rfl

/-! ## `setDrive` -/

@[simp] theorem State.setDrive_now (s : State) (i : CarId) (d : Drive) : (s.setDrive i d).now = s.now := rfl
@[simp] theorem State.setDrive_odo (s : State) (i : CarId) (d : Drive) : (s.setDrive i d).odo = s.odo := rfl
@[simp] theorem State.setDrive_route (s : State) (i : CarId) (d : Drive) : (s.setDrive i d).route = s.route := rfl
@[simp] theorem State.setDrive_gateOpen (s : State) (i : CarId) (d : Drive) : (s.setDrive i d).gateOpen = s.gateOpen := rfl
@[simp] theorem State.setDrive_frameStart (s : State) (i : CarId) (d : Drive) : (s.setDrive i d).frameStart = s.frameStart := rfl
@[simp] theorem State.setDrive_cars (s : State) (i : CarId) (d : Drive) : (s.setDrive i d).cars = s.cars := rfl
@[simp] theorem State.setDrive_link (s : State) (i : CarId) (d : Drive) : (s.setDrive i d).link = { s.link with drives := s.link.drives.set i d } := rfl
@[simp] theorem State.setDrive_sup (s : State) (i : CarId) (d : Drive) : (s.setDrive i d).sup = s.sup := rfl
@[simp] theorem State.setDrive_mon (s : State) (i : CarId) (d : Drive) : (s.setDrive i d).mon = s.mon := rfl
@[simp] theorem State.setDrive_unit (s : State) (i : CarId) (d : Drive) : (s.setDrive i d).unit = s.unit := rfl
@[simp] theorem State.setDrive_ctl (s : State) (i : CarId) (d : Drive) : (s.setDrive i d).ctl = s.ctl := rfl
@[simp] theorem State.setDrive_pending (s : State) (i : CarId) (d : Drive) : (s.setDrive i d).pending = s.pending := rfl

/-! ## `setPersistence` -/

@[simp] theorem State.setPersistence_now (s : State) (i : CarId) (n : Nat) : (s.setPersistence i n).now = s.now := rfl
@[simp] theorem State.setPersistence_odo (s : State) (i : CarId) (n : Nat) : (s.setPersistence i n).odo = s.odo := rfl
@[simp] theorem State.setPersistence_route (s : State) (i : CarId) (n : Nat) : (s.setPersistence i n).route = s.route := rfl
@[simp] theorem State.setPersistence_gateOpen (s : State) (i : CarId) (n : Nat) : (s.setPersistence i n).gateOpen = s.gateOpen := rfl
@[simp] theorem State.setPersistence_frameStart (s : State) (i : CarId) (n : Nat) : (s.setPersistence i n).frameStart = s.frameStart := rfl
@[simp] theorem State.setPersistence_cars (s : State) (i : CarId) (n : Nat) : (s.setPersistence i n).cars = s.cars := rfl
@[simp] theorem State.setPersistence_link (s : State) (i : CarId) (n : Nat) : (s.setPersistence i n).link = s.link := rfl
@[simp] theorem State.setPersistence_sup (s : State) (i : CarId) (n : Nat) : (s.setPersistence i n).sup = { s.sup with persistence := s.sup.persistence.set i n } := rfl
@[simp] theorem State.setPersistence_mon (s : State) (i : CarId) (n : Nat) : (s.setPersistence i n).mon = s.mon := rfl
@[simp] theorem State.setPersistence_unit (s : State) (i : CarId) (n : Nat) : (s.setPersistence i n).unit = s.unit := rfl
@[simp] theorem State.setPersistence_ctl (s : State) (i : CarId) (n : Nat) : (s.setPersistence i n).ctl = s.ctl := rfl
@[simp] theorem State.setPersistence_pending (s : State) (i : CarId) (n : Nat) : (s.setPersistence i n).pending = s.pending := rfl

/-! ## `setSuspended` -/

@[simp] theorem State.setSuspended_now (s : State) (i : CarId) (b : Bool) : (s.setSuspended i b).now = s.now := rfl
@[simp] theorem State.setSuspended_odo (s : State) (i : CarId) (b : Bool) : (s.setSuspended i b).odo = s.odo := rfl
@[simp] theorem State.setSuspended_route (s : State) (i : CarId) (b : Bool) : (s.setSuspended i b).route = s.route := rfl
@[simp] theorem State.setSuspended_gateOpen (s : State) (i : CarId) (b : Bool) : (s.setSuspended i b).gateOpen = s.gateOpen := rfl
@[simp] theorem State.setSuspended_frameStart (s : State) (i : CarId) (b : Bool) : (s.setSuspended i b).frameStart = s.frameStart := rfl
@[simp] theorem State.setSuspended_cars (s : State) (i : CarId) (b : Bool) : (s.setSuspended i b).cars = s.cars.set i { s.cars[i] with supervision := b } := rfl
@[simp] theorem State.setSuspended_link (s : State) (i : CarId) (b : Bool) : (s.setSuspended i b).link = s.link := rfl
@[simp] theorem State.setSuspended_sup (s : State) (i : CarId) (b : Bool) : (s.setSuspended i b).sup = { s.sup with suspended := s.sup.suspended.set i b } := rfl
@[simp] theorem State.setSuspended_mon (s : State) (i : CarId) (b : Bool) : (s.setSuspended i b).mon = s.mon := rfl
@[simp] theorem State.setSuspended_unit (s : State) (i : CarId) (b : Bool) : (s.setSuspended i b).unit = s.unit := rfl
@[simp] theorem State.setSuspended_ctl (s : State) (i : CarId) (b : Bool) : (s.setSuspended i b).ctl = s.ctl := rfl
@[simp] theorem State.setSuspended_pending (s : State) (i : CarId) (b : Bool) : (s.setSuspended i b).pending = s.pending := rfl

/-! ## `setHealth` -/

@[simp] theorem State.setHealth_now (s : State) (i : CarId) (n : Nat) (w : Bool) : (s.setHealth i n w).now = s.now := rfl
@[simp] theorem State.setHealth_odo (s : State) (i : CarId) (n : Nat) (w : Bool) : (s.setHealth i n w).odo = s.odo := rfl
@[simp] theorem State.setHealth_route (s : State) (i : CarId) (n : Nat) (w : Bool) : (s.setHealth i n w).route = s.route := rfl
@[simp] theorem State.setHealth_gateOpen (s : State) (i : CarId) (n : Nat) (w : Bool) : (s.setHealth i n w).gateOpen = s.gateOpen := rfl
@[simp] theorem State.setHealth_frameStart (s : State) (i : CarId) (n : Nat) (w : Bool) : (s.setHealth i n w).frameStart = s.frameStart := rfl
@[simp] theorem State.setHealth_cars (s : State) (i : CarId) (n : Nat) (w : Bool) : (s.setHealth i n w).cars = s.cars.set i { s.cars[i] with healthReduce := 80 ≤ n } := rfl
@[simp] theorem State.setHealth_link (s : State) (i : CarId) (n : Nat) (w : Bool) : (s.setHealth i n w).link = { s.link with drives := s.link.drives.set i { s.link.drives[i] with health := n, warned := w } } := rfl
@[simp] theorem State.setHealth_sup (s : State) (i : CarId) (n : Nat) (w : Bool) : (s.setHealth i n w).sup = s.sup := rfl
@[simp] theorem State.setHealth_mon (s : State) (i : CarId) (n : Nat) (w : Bool) : (s.setHealth i n w).mon = s.mon := rfl
@[simp] theorem State.setHealth_unit (s : State) (i : CarId) (n : Nat) (w : Bool) : (s.setHealth i n w).unit = s.unit := rfl
@[simp] theorem State.setHealth_ctl (s : State) (i : CarId) (n : Nat) (w : Bool) : (s.setHealth i n w).ctl = s.ctl := rfl
@[simp] theorem State.setHealth_pending (s : State) (i : CarId) (n : Nat) (w : Bool) : (s.setHealth i n w).pending = s.pending := rfl

/-! ## `setLatch` -/

@[simp] theorem State.setLatch_now (s : State) (i : CarId) (r : Option LatchReason) : (s.setLatch i r).now = s.now := rfl
@[simp] theorem State.setLatch_odo (s : State) (i : CarId) (r : Option LatchReason) : (s.setLatch i r).odo = s.odo := rfl
@[simp] theorem State.setLatch_route (s : State) (i : CarId) (r : Option LatchReason) : (s.setLatch i r).route = s.route := rfl
@[simp] theorem State.setLatch_gateOpen (s : State) (i : CarId) (r : Option LatchReason) : (s.setLatch i r).gateOpen = s.gateOpen := rfl
@[simp] theorem State.setLatch_frameStart (s : State) (i : CarId) (r : Option LatchReason) : (s.setLatch i r).frameStart = s.frameStart := rfl
@[simp] theorem State.setLatch_cars (s : State) (i : CarId) (r : Option LatchReason) : (s.setLatch i r).cars = s.cars.set i { s.cars[i] with latchReason := r } := rfl
@[simp] theorem State.setLatch_link (s : State) (i : CarId) (r : Option LatchReason) : (s.setLatch i r).link = s.link := rfl
@[simp] theorem State.setLatch_sup (s : State) (i : CarId) (r : Option LatchReason) : (s.setLatch i r).sup = s.sup := rfl
@[simp] theorem State.setLatch_mon (s : State) (i : CarId) (r : Option LatchReason) : (s.setLatch i r).mon = s.mon := rfl
@[simp] theorem State.setLatch_unit (s : State) (i : CarId) (r : Option LatchReason) : (s.setLatch i r).unit = s.unit := rfl
@[simp] theorem State.setLatch_ctl (s : State) (i : CarId) (r : Option LatchReason) : (s.setLatch i r).ctl = s.ctl := rfl
@[simp] theorem State.setLatch_pending (s : State) (i : CarId) (r : Option LatchReason) : (s.setLatch i r).pending = s.pending := rfl

/-! ## `setDriveFault` -/

@[simp] theorem State.setDriveFault_now (s : State) (i : CarId) (b : Bool) : (s.setDriveFault i b).now = s.now := rfl
@[simp] theorem State.setDriveFault_odo (s : State) (i : CarId) (b : Bool) : (s.setDriveFault i b).odo = s.odo := rfl
@[simp] theorem State.setDriveFault_route (s : State) (i : CarId) (b : Bool) : (s.setDriveFault i b).route = s.route := rfl
@[simp] theorem State.setDriveFault_gateOpen (s : State) (i : CarId) (b : Bool) : (s.setDriveFault i b).gateOpen = s.gateOpen := rfl
@[simp] theorem State.setDriveFault_frameStart (s : State) (i : CarId) (b : Bool) : (s.setDriveFault i b).frameStart = s.frameStart := rfl
@[simp] theorem State.setDriveFault_cars (s : State) (i : CarId) (b : Bool) : (s.setDriveFault i b).cars = s.cars.set i { s.cars[i] with driveFault := b } := rfl
@[simp] theorem State.setDriveFault_link (s : State) (i : CarId) (b : Bool) : (s.setDriveFault i b).link = s.link := rfl
@[simp] theorem State.setDriveFault_sup (s : State) (i : CarId) (b : Bool) : (s.setDriveFault i b).sup = s.sup := rfl
@[simp] theorem State.setDriveFault_mon (s : State) (i : CarId) (b : Bool) : (s.setDriveFault i b).mon = s.mon := rfl
@[simp] theorem State.setDriveFault_unit (s : State) (i : CarId) (b : Bool) : (s.setDriveFault i b).unit = s.unit := rfl
@[simp] theorem State.setDriveFault_ctl (s : State) (i : CarId) (b : Bool) : (s.setDriveFault i b).ctl = s.ctl := rfl
@[simp] theorem State.setDriveFault_pending (s : State) (i : CarId) (b : Bool) : (s.setDriveFault i b).pending = s.pending := rfl

/-! ## `setPhase` -/

@[simp] theorem State.setPhase_now (s : State) (c : PollCycle) (p : Phase) : (s.setPhase c p).now = s.now := rfl
@[simp] theorem State.setPhase_odo (s : State) (c : PollCycle) (p : Phase) : (s.setPhase c p).odo = s.odo := rfl
@[simp] theorem State.setPhase_route (s : State) (c : PollCycle) (p : Phase) : (s.setPhase c p).route = s.route := rfl
@[simp] theorem State.setPhase_gateOpen (s : State) (c : PollCycle) (p : Phase) : (s.setPhase c p).gateOpen = s.gateOpen := rfl
@[simp] theorem State.setPhase_frameStart (s : State) (c : PollCycle) (p : Phase) : (s.setPhase c p).frameStart = s.frameStart := rfl
@[simp] theorem State.setPhase_cars (s : State) (c : PollCycle) (p : Phase) : (s.setPhase c p).cars = s.cars := rfl
@[simp] theorem State.setPhase_link (s : State) (c : PollCycle) (p : Phase) : (s.setPhase c p).link = { s.link with cycle := some { c with phase := p } } := rfl
@[simp] theorem State.setPhase_sup (s : State) (c : PollCycle) (p : Phase) : (s.setPhase c p).sup = s.sup := rfl
@[simp] theorem State.setPhase_mon (s : State) (c : PollCycle) (p : Phase) : (s.setPhase c p).mon = s.mon := rfl
@[simp] theorem State.setPhase_unit (s : State) (c : PollCycle) (p : Phase) : (s.setPhase c p).unit = s.unit := rfl
@[simp] theorem State.setPhase_ctl (s : State) (c : PollCycle) (p : Phase) : (s.setPhase c p).ctl = s.ctl := rfl
@[simp] theorem State.setPhase_pending (s : State) (c : PollCycle) (p : Phase) : (s.setPhase c p).pending = s.pending := rfl

/-! ## `holdLine` -/

@[simp] theorem State.holdLine_now (s : State) : s.holdLine.now = s.now := rfl
@[simp] theorem State.holdLine_odo (s : State) : s.holdLine.odo = s.odo := rfl
@[simp] theorem State.holdLine_route (s : State) : s.holdLine.route = s.route := rfl
@[simp] theorem State.holdLine_gateOpen (s : State) : s.holdLine.gateOpen = s.gateOpen := rfl
@[simp] theorem State.holdLine_frameStart (s : State) : s.holdLine.frameStart = s.frameStart := rfl
@[simp] theorem State.holdLine_cars (s : State) : s.holdLine.cars = s.cars := rfl
@[simp] theorem State.holdLine_sup (s : State) : s.holdLine.sup = s.sup := rfl
@[simp] theorem State.holdLine_mon (s : State) : s.holdLine.mon = s.mon := rfl
@[simp] theorem State.holdLine_unit (s : State) : s.holdLine.unit = s.unit := rfl
@[simp] theorem State.holdLine_ctl (s : State) : s.holdLine.ctl = s.ctl := rfl
@[simp] theorem State.holdLine_pending (s : State) : s.holdLine.pending = s.pending := rfl
@[simp] theorem State.holdLine_link (s : State) : s.holdLine.link
    = { s.link with lineIdleFrom := s.now } := rfl

/-! ## One car's record after an update -/

/-- A record read back: the one written at its own index, the one held before at the others. -/
theorem State.setCar_get (s : State) (i j : CarId) (c : CarChannel) :
    (s.setCar i c).cars[j] = if i = j then c else s.cars[j] := by
  simp [State.setCar, Vector.getElem_set, Fin.ext_iff]

theorem State.setDrive_get (s : State) (i j : CarId) (d : Drive) :
    (s.setDrive i d).link.drives[j] = if i = j then d else s.link.drives[j] := by
  simp [State.setDrive, Vector.getElem_set, Fin.ext_iff]

theorem State.setPersistence_get (s : State) (i j : CarId) (n : Nat) :
    (s.setPersistence i n).sup.persistence[j] = if i = j then n else s.sup.persistence[j] := by
  simp [State.setPersistence, Vector.getElem_set, Fin.ext_iff]

theorem State.setSuspended_get (s : State) (i j : CarId) (b : Bool) :
    (s.setSuspended i b).sup.suspended[j] = if i = j then b else s.sup.suspended[j] := by
  simp [State.setSuspended, Vector.getElem_set, Fin.ext_iff]

theorem State.setSuspended_car (s : State) (i j : CarId) (b : Bool) :
    (s.setSuspended i b).cars[j] = if i = j then { s.cars[i] with supervision := b } else s.cars[j] := by
  simp [State.setSuspended, Vector.getElem_set, Fin.ext_iff]

theorem State.setHealth_car (s : State) (i j : CarId) (n : Nat) (w : Bool) :
    (s.setHealth i n w).cars[j]
      = if i = j then { s.cars[i] with healthReduce := 80 ≤ n } else s.cars[j] := by
  simp [State.setHealth, Vector.getElem_set, Fin.ext_iff]

theorem State.setHealth_get (s : State) (i j : CarId) (n : Nat) (w : Bool) :
    (s.setHealth i n w).link.drives[j]
      = if i = j then { s.link.drives[i] with health := n, warned := w } else s.link.drives[j] := by
  simp [State.setHealth, Vector.getElem_set, Fin.ext_iff]

theorem State.setLatch_get (s : State) (i j : CarId) (r : Option LatchReason) :
    (s.setLatch i r).cars[j] = if i = j then { s.cars[i] with latchReason := r } else s.cars[j] := by
  simp [State.setLatch, State.setCar, Vector.getElem_set, Fin.ext_iff]

theorem State.setDriveFault_get (s : State) (i j : CarId) (b : Bool) :
    (s.setDriveFault i b).cars[j] = if i = j then { s.cars[i] with driveFault := b } else s.cars[j] := by
  simp [State.setDriveFault, State.setCar, Vector.getElem_set, Fin.ext_iff]

/-! ## Folds over the cars -/

/-- A view that no turn changes is not changed by the turns together. -/
theorem foldl_view {α β σ : Type} (g : σ → β) (f : σ → α → σ) (h : ∀ s i, g (f s i) = g s) (l : List α) (s : σ) :
    g (l.foldl f s) = g s := by
  induction l generalizing s with
  | nil => rfl
  | cons i l ih => rw [List.foldl_cons, ih, h]

/-- A property that every turn keeps is kept by the turns together. -/
theorem foldl_keeps {α σ : Type} (P : σ → Prop) (f : σ → α → σ) (h : ∀ s i, P s → P (f s i)) (l : List α) (s : σ) :
    P s → P (l.foldl f s) := by
  induction l generalizing s with
  | nil => exact id
  | cons i l ih => exact fun hs => ih _ (h _ _ hs)

end Sys2Proof.Machine
end

