-- ==== Sys2Proof/Laws/Values.lean ====
section
/-! SUPPORT. The values the operations work with: parameter checks, holds, roundings and their bounds. -/

namespace Sys2Proof.Machine

/-- A set is good when every field of it is (R170). -/
theorem firstBad_none (l : List (Nat × Bool)) : firstBad l = none ↔ ∀ f ∈ l, f.2 = true := by
  induction l with
  | nil => simp [firstBad]
  | cons f l ih => obtain ⟨n, b⟩ := f; cases b <;> simp [firstBad, ih]

/-- The field named is bad, and every field before it is good (R170). -/
theorem firstBad_some (l : List (Nat × Bool)) (n : Nat) :
    firstBad l = some n ↔ ∃ a b, l = a ++ (n, false) :: b ∧ ∀ f ∈ a, f.2 = true := by
  induction l with
  | nil => simp [firstBad]
  | cons f l ih =>
    obtain ⟨m, g⟩ := f
    cases g
    · simp only [firstBad]
      constructor
      · rintro h; injection h with h; subst h; exact ⟨[], l, rfl, by simp⟩
      · rintro ⟨a, b, h, ha⟩
        cases a with
        | nil => simp at h; simp [h.1]
        | cons x a => simp only [List.cons_append, List.cons.injEq] at h; have := ha x (by simp); simp [← h.1] at this
    · simp only [firstBad, if_true, ih]
      constructor
      · rintro ⟨a, b, rfl, ha⟩
        exact ⟨(m, true) :: a, b, rfl, by simpa using ha⟩
      · rintro ⟨a, b, h, ha⟩
        cases a with
        | nil => simp at h
        | cons x a =>
          simp only [List.cons_append, List.cons.injEq] at h
          exact ⟨a, b, h.2, fun f hf => ha f (List.mem_cons_of_mem _ hf)⟩

theorem hold_mem (lo hi z : Int) (h : lo ≤ hi) : lo ≤ hold lo hi z ∧ hold lo hi z ≤ hi := by
  unfold hold; omega

theorem hold_eq (lo hi z : Int) (h₁ : lo ≤ z) (h₂ : z ≤ hi) : hold lo hi z = z := by unfold hold; omega

theorem bump_le (n : Nat) : bump n ≤ 65535 := by unfold bump; omega

theorem shiftChainage_le (p : Nat) (z : Int) : shiftChainage p z ≤ maxChainage := by
  unfold shiftChainage hold maxChainage; omega

theorem sign_neg (z : Int) : sign (-z) = -sign z := by unfold sign; omega

/-- The raw target held within a limit keeps within it (R64). -/
theorem clampTilt_bound (raw : Int) (limit : Nat) : (clampTilt raw limit).1.natAbs ≤ limit := by
  unfold clampTilt sign
  split
  · assumption
  · dsimp only; split <;> (try split) <;> omega

/-- A target handed to a channel is within the limit handed with it, and that within TILT_MAX (R64). -/
theorem State.demand_bound (s : State) (v : Nat) (i : CarId) :
    (s.demand v i).target.natAbs ≤ (s.demand v i).limit ∧ (s.demand v i).limit ≤ s.unit.settings.tiltMax := by
  have hb : s.baseLimit i ≤ s.unit.settings.tiltMax := by
    unfold baseLimit; dsimp only; split <;> omega
  have hc : ∀ l g, capLimit l g ≤ l := by intro l g; unfold capLimit; split <;> omega
  unfold demand
  split
  · refine ⟨?_, Nat.le_trans (hc _ _) (Nat.le_trans (hc _ _) hb)⟩
    dsimp only [targetAt]
    split
    · simp
    · split
      · exact clampTilt_bound _ _
      · simp
  · exact ⟨by simp, hb⟩

/-- The choice of rate keeps the rate within OMEGA_MAX (R74). -/
theorem chooseRate_bound (e omega : Int) (law : TiltLaw) (h : omega.natAbs ≤ law.omegaMax) :
    (chooseRate e omega law.rateStep law.omegaMax).natAbs ≤ law.omegaMax := by
  have hs : 0 ≤ law.rateStep := by unfold TiltLaw.rateStep; omega
  generalize law.rateStep = d at hs
  have hd : (decelerate omega d).natAbs ≤ law.omegaMax := by unfold decelerate; split <;> (try split) <;> omega
  unfold chooseRate
  split
  · simp
  · split
    · exact hd
    · split
      · exact hd
      · unfold accelerate; split <;> split <;> omega

/-- One step keeps the command within ±TILT_MAX and the rate within OMEGA_MAX (R74, R75). -/
theorem profileStep_bound (theta omega target : Int) (law : TiltLaw) (tiltMax : Nat) (ht : target.natAbs ≤ tiltMax)
    (ho : omega.natAbs ≤ law.omegaMax) :
    (profileStep theta omega target law tiltMax).1.natAbs ≤ tiltMax * 100
      ∧ (profileStep theta omega target law tiltMax).2.natAbs ≤ law.omegaMax := by
  have hr := chooseRate_bound (target * 100 - theta) omega law ho
  unfold profileStep moveTilt
  dsimp only
  split
  · exact ⟨by dsimp only; omega, by simp⟩
  · split
    · exact ⟨by dsimp only; omega, by simp⟩
    · split
      · exact ⟨by dsimp only; omega, by simp⟩
      · exact ⟨by dsimp only; omega, hr⟩

/-- A car at rest on a target of 0 stays there (R73, R81). -/
theorem profileStep_rest (law : TiltLaw) (tiltMax : Nat) : profileStep 0 0 0 law tiltMax = (0, 0) := by
  unfold profileStep chooseRate moveTilt arrived
  simp
  split
  · omega
  · rfl

end Sys2Proof.Machine
end

