-- ==== Sys2Proof/Laws/Notices.lean ====
section
/-! SUPPORT. The notice queue, the batch slot and the transmitter: posting changes the control link
interface alone, and what is undelivered grows by the notice posted. -/

namespace Sys2Proof.Machine

@[simp] theorem State.chooseFrame_now (s : State) : (s.chooseFrame).now = s.now := by
  unfold chooseFrame; split <;> (try split) <;> (try split) <;> rfl
@[simp] theorem State.chooseFrame_odo (s : State) : (s.chooseFrame).odo = s.odo := by
  unfold chooseFrame; split <;> (try split) <;> (try split) <;> rfl
@[simp] theorem State.chooseFrame_route (s : State) : (s.chooseFrame).route = s.route := by
  unfold chooseFrame; split <;> (try split) <;> (try split) <;> rfl
@[simp] theorem State.chooseFrame_gateOpen (s : State) : (s.chooseFrame).gateOpen = s.gateOpen := by
  unfold chooseFrame; split <;> (try split) <;> (try split) <;> rfl
@[simp] theorem State.chooseFrame_frameStart (s : State) : (s.chooseFrame).frameStart = s.frameStart := by
  unfold chooseFrame; split <;> (try split) <;> (try split) <;> rfl
@[simp] theorem State.chooseFrame_cars (s : State) : (s.chooseFrame).cars = s.cars := by
  unfold chooseFrame; split <;> (try split) <;> (try split) <;> rfl
@[simp] theorem State.chooseFrame_link (s : State) : (s.chooseFrame).link = s.link := by
  unfold chooseFrame; split <;> (try split) <;> (try split) <;> rfl
@[simp] theorem State.chooseFrame_sup (s : State) : (s.chooseFrame).sup = s.sup := by
  unfold chooseFrame; split <;> (try split) <;> (try split) <;> rfl
@[simp] theorem State.chooseFrame_mon (s : State) : (s.chooseFrame).mon = s.mon := by
  unfold chooseFrame; split <;> (try split) <;> (try split) <;> rfl
@[simp] theorem State.chooseFrame_unit (s : State) : (s.chooseFrame).unit = s.unit := by
  unfold chooseFrame; split <;> (try split) <;> (try split) <;> rfl
@[simp] theorem State.chooseFrame_pending (s : State) : (s.chooseFrame).pending = s.pending := by
  unfold chooseFrame; split <;> (try split) <;> (try split) <;> rfl

@[simp] theorem State.pushReply_now (s : State) (r : Reply) : (s.pushReply r).now = s.now := by
  simp [pushReply]
@[simp] theorem State.pushReply_odo (s : State) (r : Reply) : (s.pushReply r).odo = s.odo := by
  simp [pushReply]
@[simp] theorem State.pushReply_route (s : State) (r : Reply) : (s.pushReply r).route = s.route := by
  simp [pushReply]
@[simp] theorem State.pushReply_gateOpen (s : State) (r : Reply) : (s.pushReply r).gateOpen = s.gateOpen := by
  simp [pushReply]
@[simp] theorem State.pushReply_frameStart (s : State) (r : Reply) : (s.pushReply r).frameStart = s.frameStart := by
  simp [pushReply]
@[simp] theorem State.pushReply_cars (s : State) (r : Reply) : (s.pushReply r).cars = s.cars := by
  simp [pushReply]
@[simp] theorem State.pushReply_link (s : State) (r : Reply) : (s.pushReply r).link = s.link := by
  simp [pushReply]
@[simp] theorem State.pushReply_sup (s : State) (r : Reply) : (s.pushReply r).sup = s.sup := by
  simp [pushReply]
@[simp] theorem State.pushReply_mon (s : State) (r : Reply) : (s.pushReply r).mon = s.mon := by
  simp [pushReply]
@[simp] theorem State.pushReply_unit (s : State) (r : Reply) : (s.pushReply r).unit = s.unit := by
  simp [pushReply]
@[simp] theorem State.pushReply_pending (s : State) (r : Reply) : (s.pushReply r).pending = s.pending := by
  simp [pushReply]

@[simp] theorem State.formBatch_now (s : State) : (s.formBatch).now = s.now := by
  rfl
@[simp] theorem State.formBatch_odo (s : State) : (s.formBatch).odo = s.odo := by
  rfl
@[simp] theorem State.formBatch_route (s : State) : (s.formBatch).route = s.route := by
  rfl
@[simp] theorem State.formBatch_gateOpen (s : State) : (s.formBatch).gateOpen = s.gateOpen := by
  rfl
@[simp] theorem State.formBatch_frameStart (s : State) : (s.formBatch).frameStart = s.frameStart := by
  rfl
@[simp] theorem State.formBatch_cars (s : State) : (s.formBatch).cars = s.cars := by
  rfl
@[simp] theorem State.formBatch_link (s : State) : (s.formBatch).link = s.link := by
  rfl
@[simp] theorem State.formBatch_sup (s : State) : (s.formBatch).sup = s.sup := by
  rfl
@[simp] theorem State.formBatch_mon (s : State) : (s.formBatch).mon = s.mon := by
  rfl
@[simp] theorem State.formBatch_unit (s : State) : (s.formBatch).unit = s.unit := by
  rfl
@[simp] theorem State.formBatch_pending (s : State) : (s.formBatch).pending = s.pending := by
  rfl

@[simp] theorem State.formationTest_now (s : State) : (s.formationTest).now = s.now := by
  unfold formationTest; split <;> simp
@[simp] theorem State.formationTest_odo (s : State) : (s.formationTest).odo = s.odo := by
  unfold formationTest; split <;> simp
@[simp] theorem State.formationTest_route (s : State) : (s.formationTest).route = s.route := by
  unfold formationTest; split <;> simp
@[simp] theorem State.formationTest_gateOpen (s : State) : (s.formationTest).gateOpen = s.gateOpen := by
  unfold formationTest; split <;> simp
@[simp] theorem State.formationTest_frameStart (s : State) : (s.formationTest).frameStart = s.frameStart := by
  unfold formationTest; split <;> simp
@[simp] theorem State.formationTest_cars (s : State) : (s.formationTest).cars = s.cars := by
  unfold formationTest; split <;> simp
@[simp] theorem State.formationTest_link (s : State) : (s.formationTest).link = s.link := by
  unfold formationTest; split <;> simp
@[simp] theorem State.formationTest_sup (s : State) : (s.formationTest).sup = s.sup := by
  unfold formationTest; split <;> simp
@[simp] theorem State.formationTest_mon (s : State) : (s.formationTest).mon = s.mon := by
  unfold formationTest; split <;> simp
@[simp] theorem State.formationTest_unit (s : State) : (s.formationTest).unit = s.unit := by
  unfold formationTest; split <;> simp
@[simp] theorem State.formationTest_pending (s : State) : (s.formationTest).pending = s.pending := by
  unfold formationTest; split <;> simp

@[simp] theorem State.joinNotice_now (s : State) (n : Notice) : (s.joinNotice n).now = s.now := by
  rfl
@[simp] theorem State.joinNotice_odo (s : State) (n : Notice) : (s.joinNotice n).odo = s.odo := by
  rfl
@[simp] theorem State.joinNotice_route (s : State) (n : Notice) : (s.joinNotice n).route = s.route := by
  rfl
@[simp] theorem State.joinNotice_gateOpen (s : State) (n : Notice) : (s.joinNotice n).gateOpen = s.gateOpen := by
  rfl
@[simp] theorem State.joinNotice_frameStart (s : State) (n : Notice) : (s.joinNotice n).frameStart = s.frameStart := by
  rfl
@[simp] theorem State.joinNotice_cars (s : State) (n : Notice) : (s.joinNotice n).cars = s.cars := by
  rfl
@[simp] theorem State.joinNotice_link (s : State) (n : Notice) : (s.joinNotice n).link = s.link := by
  rfl
@[simp] theorem State.joinNotice_sup (s : State) (n : Notice) : (s.joinNotice n).sup = s.sup := by
  rfl
@[simp] theorem State.joinNotice_mon (s : State) (n : Notice) : (s.joinNotice n).mon = s.mon := by
  rfl
@[simp] theorem State.joinNotice_unit (s : State) (n : Notice) : (s.joinNotice n).unit = s.unit := by
  rfl
@[simp] theorem State.joinNotice_pending (s : State) (n : Notice) : (s.joinNotice n).pending = s.pending := by
  rfl

@[simp] theorem State.postNotice_now (s : State) (n : Notice) : (s.postNotice n).now = s.now := by
  unfold postNotice; split <;> simp
@[simp] theorem State.postNotice_odo (s : State) (n : Notice) : (s.postNotice n).odo = s.odo := by
  unfold postNotice; split <;> simp
@[simp] theorem State.postNotice_route (s : State) (n : Notice) : (s.postNotice n).route = s.route := by
  unfold postNotice; split <;> simp
@[simp] theorem State.postNotice_gateOpen (s : State) (n : Notice) : (s.postNotice n).gateOpen = s.gateOpen := by
  unfold postNotice; split <;> simp
@[simp] theorem State.postNotice_frameStart (s : State) (n : Notice) : (s.postNotice n).frameStart = s.frameStart := by
  unfold postNotice; split <;> simp
@[simp] theorem State.postNotice_cars (s : State) (n : Notice) : (s.postNotice n).cars = s.cars := by
  unfold postNotice; split <;> simp
@[simp] theorem State.postNotice_link (s : State) (n : Notice) : (s.postNotice n).link = s.link := by
  unfold postNotice; split <;> simp
@[simp] theorem State.postNotice_sup (s : State) (n : Notice) : (s.postNotice n).sup = s.sup := by
  unfold postNotice; split <;> simp
@[simp] theorem State.postNotice_mon (s : State) (n : Notice) : (s.postNotice n).mon = s.mon := by
  unfold postNotice; split <;> simp
@[simp] theorem State.postNotice_unit (s : State) (n : Notice) : (s.postNotice n).unit = s.unit := by
  unfold postNotice; split <;> simp
@[simp] theorem State.postNotice_pending (s : State) (n : Notice) : (s.postNotice n).pending = s.pending := by
  unfold postNotice; split <;> simp

@[simp] theorem State.post_now (s : State) (k : NoticeKind) (c : Option CarId) (a b : BitVec 16) : (s.post k c a b).now = s.now := by
  simp [post]
@[simp] theorem State.post_odo (s : State) (k : NoticeKind) (c : Option CarId) (a b : BitVec 16) : (s.post k c a b).odo = s.odo := by
  simp [post]
@[simp] theorem State.post_route (s : State) (k : NoticeKind) (c : Option CarId) (a b : BitVec 16) : (s.post k c a b).route = s.route := by
  simp [post]
@[simp] theorem State.post_gateOpen (s : State) (k : NoticeKind) (c : Option CarId) (a b : BitVec 16) : (s.post k c a b).gateOpen = s.gateOpen := by
  simp [post]
@[simp] theorem State.post_frameStart (s : State) (k : NoticeKind) (c : Option CarId) (a b : BitVec 16) : (s.post k c a b).frameStart = s.frameStart := by
  simp [post]
@[simp] theorem State.post_cars (s : State) (k : NoticeKind) (c : Option CarId) (a b : BitVec 16) : (s.post k c a b).cars = s.cars := by
  simp [post]
@[simp] theorem State.post_link (s : State) (k : NoticeKind) (c : Option CarId) (a b : BitVec 16) : (s.post k c a b).link = s.link := by
  simp [post]
@[simp] theorem State.post_sup (s : State) (k : NoticeKind) (c : Option CarId) (a b : BitVec 16) : (s.post k c a b).sup = s.sup := by
  simp [post]
@[simp] theorem State.post_mon (s : State) (k : NoticeKind) (c : Option CarId) (a b : BitVec 16) : (s.post k c a b).mon = s.mon := by
  simp [post]
@[simp] theorem State.post_unit (s : State) (k : NoticeKind) (c : Option CarId) (a b : BitVec 16) : (s.post k c a b).unit = s.unit := by
  simp [post]
@[simp] theorem State.post_pending (s : State) (k : NoticeKind) (c : Option CarId) (a b : BitVec 16) : (s.post k c a b).pending = s.pending := by
  simp [post]

/-! ## The transmitter -/

/-- Choosing changes the transmitter alone. -/
theorem State.chooseFrame_ctl (s : State) :
    s.chooseFrame.ctl = { s.ctl with transmitter := s.chooseFrame.ctl.transmitter } := by
  unfold chooseFrame; split <;> (try split) <;> (try split) <;> rfl

@[simp] theorem State.chooseFrame_rxBuffer (s : State) : s.chooseFrame.ctl.rxBuffer = s.ctl.rxBuffer := by
  rw [chooseFrame_ctl]
@[simp] theorem State.chooseFrame_rxLast (s : State) : s.chooseFrame.ctl.rxLast = s.ctl.rxLast := by
  rw [chooseFrame_ctl]
@[simp] theorem State.chooseFrame_fifo (s : State) : s.chooseFrame.ctl.fifo = s.ctl.fifo := by
  rw [chooseFrame_ctl]
@[simp] theorem State.chooseFrame_replies (s : State) : s.chooseFrame.ctl.replies = s.ctl.replies := by
  rw [chooseFrame_ctl]
@[simp] theorem State.chooseFrame_hold (s : State) : s.chooseFrame.ctl.hold = s.ctl.hold := by
  rw [chooseFrame_ctl]
@[simp] theorem State.chooseFrame_notices (s : State) : s.chooseFrame.ctl.notices = s.ctl.notices := by
  rw [chooseFrame_ctl]
@[simp] theorem State.chooseFrame_lost (s : State) : s.chooseFrame.ctl.lost = s.ctl.lost := by
  rw [chooseFrame_ctl]
@[simp] theorem State.chooseFrame_quiet (s : State) : s.chooseFrame.ctl.quiet = s.ctl.quiet := by
  rw [chooseFrame_ctl]
@[simp] theorem State.chooseFrame_absolute (s : State) : s.chooseFrame.ctl.absolute = s.ctl.absolute := by
  rw [chooseFrame_ctl]
@[simp] theorem State.chooseFrame_expiryMark (s : State) : s.chooseFrame.ctl.expiryMark = s.ctl.expiryMark := by
  rw [chooseFrame_ctl]
@[simp] theorem State.chooseFrame_slot (s : State) : s.chooseFrame.ctl.slot = s.ctl.slot := by
  rw [chooseFrame_ctl]
@[simp] theorem State.chooseFrame_batchSequence (s : State) : s.chooseFrame.ctl.batchSequence = s.ctl.batchSequence := by
  rw [chooseFrame_ctl]
@[simp] theorem State.chooseFrame_crcErrors (s : State) : s.chooseFrame.ctl.crcErrors = s.ctl.crcErrors := by
  rw [chooseFrame_ctl]
@[simp] theorem State.chooseFrame_dropped (s : State) : s.chooseFrame.ctl.dropped = s.ctl.dropped := by
  rw [chooseFrame_ctl]

/-- A transmitter that is sending goes on. -/
theorem State.chooseFrame_busy (s : State) (h : s.ctl.transmitter ≠ .idle) : s.chooseFrame = s := by
  unfold chooseFrame; split <;> simp_all

/-- An idle transmitter with a reply waiting sends it; with only a batch, the batch; else it stays idle
(R185). -/
theorem State.chooseFrame_transmitter (s : State) (h : s.ctl.transmitter = .idle) :
    s.chooseFrame.ctl.transmitter
      = if s.ctl.replies ≠ [] then .sendingReply s.now else if s.ctl.slot ≠ none then .sendingBatch s.now
        else .idle := by
  unfold chooseFrame
  rw [h]
  cases hr : s.ctl.replies <;> cases hs : s.ctl.slot <;> simp [hr, hs, h]

@[simp] theorem State.pushReply_rxBuffer (s : State) (r : Reply) : (s.pushReply r).ctl.rxBuffer = s.ctl.rxBuffer := by
  simp [pushReply]
@[simp] theorem State.pushReply_rxLast (s : State) (r : Reply) : (s.pushReply r).ctl.rxLast = s.ctl.rxLast := by
  simp [pushReply]
@[simp] theorem State.pushReply_fifo (s : State) (r : Reply) : (s.pushReply r).ctl.fifo = s.ctl.fifo := by
  simp [pushReply]
@[simp] theorem State.pushReply_replies (s : State) (r : Reply) :
    (s.pushReply r).ctl.replies = s.ctl.replies ++ [r] := by simp [pushReply]
@[simp] theorem State.pushReply_hold (s : State) (r : Reply) : (s.pushReply r).ctl.hold = s.ctl.hold := by
  simp [pushReply]
@[simp] theorem State.pushReply_notices (s : State) (r : Reply) : (s.pushReply r).ctl.notices = s.ctl.notices := by
  simp [pushReply]
@[simp] theorem State.pushReply_lost (s : State) (r : Reply) : (s.pushReply r).ctl.lost = s.ctl.lost := by
  simp [pushReply]
@[simp] theorem State.pushReply_quiet (s : State) (r : Reply) : (s.pushReply r).ctl.quiet = s.ctl.quiet := by
  simp [pushReply]
@[simp] theorem State.pushReply_absolute (s : State) (r : Reply) : (s.pushReply r).ctl.absolute = s.ctl.absolute := by
  simp [pushReply]
@[simp] theorem State.pushReply_expiryMark (s : State) (r : Reply) : (s.pushReply r).ctl.expiryMark = s.ctl.expiryMark := by
  simp [pushReply]
@[simp] theorem State.pushReply_slot (s : State) (r : Reply) : (s.pushReply r).ctl.slot = s.ctl.slot := by
  simp [pushReply]
@[simp] theorem State.pushReply_batchSequence (s : State) (r : Reply) : (s.pushReply r).ctl.batchSequence = s.ctl.batchSequence := by
  simp [pushReply]
@[simp] theorem State.pushReply_crcErrors (s : State) (r : Reply) : (s.pushReply r).ctl.crcErrors = s.ctl.crcErrors := by
  simp [pushReply]
@[simp] theorem State.pushReply_dropped (s : State) (r : Reply) : (s.pushReply r).ctl.dropped = s.ctl.dropped := by
  simp [pushReply]

@[simp] theorem State.formBatch_rxBuffer (s : State) : (s.formBatch).ctl.rxBuffer = s.ctl.rxBuffer := by
  rfl
@[simp] theorem State.formBatch_rxLast (s : State) : (s.formBatch).ctl.rxLast = s.ctl.rxLast := by
  rfl
@[simp] theorem State.formBatch_fifo (s : State) : (s.formBatch).ctl.fifo = s.ctl.fifo := by
  rfl
@[simp] theorem State.formBatch_replies (s : State) : (s.formBatch).ctl.replies = s.ctl.replies := by
  rfl
@[simp] theorem State.formBatch_hold (s : State) : (s.formBatch).ctl.hold = s.ctl.hold := by
  rfl
@[simp] theorem State.formBatch_crcErrors (s : State) : (s.formBatch).ctl.crcErrors = s.ctl.crcErrors := by
  rfl
@[simp] theorem State.formBatch_dropped (s : State) : (s.formBatch).ctl.dropped = s.ctl.dropped := by
  rfl

@[simp] theorem State.formationTest_rxBuffer (s : State) : (s.formationTest).ctl.rxBuffer = s.ctl.rxBuffer := by
  unfold formationTest; split <;> simp
@[simp] theorem State.formationTest_rxLast (s : State) : (s.formationTest).ctl.rxLast = s.ctl.rxLast := by
  unfold formationTest; split <;> simp
@[simp] theorem State.formationTest_fifo (s : State) : (s.formationTest).ctl.fifo = s.ctl.fifo := by
  unfold formationTest; split <;> simp
@[simp] theorem State.formationTest_replies (s : State) : (s.formationTest).ctl.replies = s.ctl.replies := by
  unfold formationTest; split <;> simp
@[simp] theorem State.formationTest_hold (s : State) : (s.formationTest).ctl.hold = s.ctl.hold := by
  unfold formationTest; split <;> simp
@[simp] theorem State.formationTest_crcErrors (s : State) : (s.formationTest).ctl.crcErrors = s.ctl.crcErrors := by
  unfold formationTest; split <;> simp
@[simp] theorem State.formationTest_dropped (s : State) : (s.formationTest).ctl.dropped = s.ctl.dropped := by
  unfold formationTest; split <;> simp

@[simp] theorem State.joinNotice_rxBuffer (s : State) (n : Notice) : (s.joinNotice n).ctl.rxBuffer = s.ctl.rxBuffer := by
  rfl
@[simp] theorem State.joinNotice_rxLast (s : State) (n : Notice) : (s.joinNotice n).ctl.rxLast = s.ctl.rxLast := by
  rfl
@[simp] theorem State.joinNotice_fifo (s : State) (n : Notice) : (s.joinNotice n).ctl.fifo = s.ctl.fifo := by
  rfl
@[simp] theorem State.joinNotice_replies (s : State) (n : Notice) : (s.joinNotice n).ctl.replies = s.ctl.replies := by
  rfl
@[simp] theorem State.joinNotice_hold (s : State) (n : Notice) : (s.joinNotice n).ctl.hold = s.ctl.hold := by
  rfl
@[simp] theorem State.joinNotice_crcErrors (s : State) (n : Notice) : (s.joinNotice n).ctl.crcErrors = s.ctl.crcErrors := by
  rfl
@[simp] theorem State.joinNotice_dropped (s : State) (n : Notice) : (s.joinNotice n).ctl.dropped = s.ctl.dropped := by
  rfl

@[simp] theorem State.postNotice_rxBuffer (s : State) (n : Notice) : (s.postNotice n).ctl.rxBuffer = s.ctl.rxBuffer := by
  unfold postNotice; split <;> simp
@[simp] theorem State.postNotice_rxLast (s : State) (n : Notice) : (s.postNotice n).ctl.rxLast = s.ctl.rxLast := by
  unfold postNotice; split <;> simp
@[simp] theorem State.postNotice_fifo (s : State) (n : Notice) : (s.postNotice n).ctl.fifo = s.ctl.fifo := by
  unfold postNotice; split <;> simp
@[simp] theorem State.postNotice_replies (s : State) (n : Notice) : (s.postNotice n).ctl.replies = s.ctl.replies := by
  unfold postNotice; split <;> simp
@[simp] theorem State.postNotice_hold (s : State) (n : Notice) : (s.postNotice n).ctl.hold = s.ctl.hold := by
  unfold postNotice; split <;> simp
@[simp] theorem State.postNotice_crcErrors (s : State) (n : Notice) : (s.postNotice n).ctl.crcErrors = s.ctl.crcErrors := by
  unfold postNotice; split <;> simp
@[simp] theorem State.postNotice_dropped (s : State) (n : Notice) : (s.postNotice n).ctl.dropped = s.ctl.dropped := by
  unfold postNotice; split <;> simp

@[simp] theorem State.post_rxBuffer (s : State) (k : NoticeKind) (c : Option CarId) (a b : BitVec 16) : (s.post k c a b).ctl.rxBuffer = s.ctl.rxBuffer := by
  simp [post]
@[simp] theorem State.post_rxLast (s : State) (k : NoticeKind) (c : Option CarId) (a b : BitVec 16) : (s.post k c a b).ctl.rxLast = s.ctl.rxLast := by
  simp [post]
@[simp] theorem State.post_fifo (s : State) (k : NoticeKind) (c : Option CarId) (a b : BitVec 16) : (s.post k c a b).ctl.fifo = s.ctl.fifo := by
  simp [post]
@[simp] theorem State.post_replies (s : State) (k : NoticeKind) (c : Option CarId) (a b : BitVec 16) : (s.post k c a b).ctl.replies = s.ctl.replies := by
  simp [post]
@[simp] theorem State.post_hold (s : State) (k : NoticeKind) (c : Option CarId) (a b : BitVec 16) : (s.post k c a b).ctl.hold = s.ctl.hold := by
  simp [post]
@[simp] theorem State.post_crcErrors (s : State) (k : NoticeKind) (c : Option CarId) (a b : BitVec 16) : (s.post k c a b).ctl.crcErrors = s.ctl.crcErrors := by
  simp [post]
@[simp] theorem State.post_dropped (s : State) (k : NoticeKind) (c : Option CarId) (a b : BitVec 16) : (s.post k c a b).ctl.dropped = s.ctl.dropped := by
  simp [post]

/-! ## What is undelivered -/

/-- A view of the control link interface that reads the slot and the queue. -/
theorem State.undelivered_congr {s t : State} (h₁ : s.ctl.slot = t.ctl.slot) (h₂ : s.ctl.notices = t.ctl.notices) :
    s.undelivered = t.undelivered := by
  unfold undelivered ControlLink.undelivered; rw [h₁, h₂]

@[simp] theorem State.chooseFrame_undelivered (s : State) : s.chooseFrame.undelivered = s.undelivered :=
  undelivered_congr (by simp) (by simp)

@[simp] theorem State.pushReply_undelivered (s : State) (r : Reply) :
    (s.pushReply r).undelivered = s.undelivered := undelivered_congr (by simp) (by simp)

/-- Forming a batch into an empty slot moves notices and changes nothing of what is undelivered (R188). -/
theorem State.formationTest_undelivered (s : State) : s.formationTest.undelivered = s.undelivered := by
  unfold formationTest
  split
  next h =>
    have hs : s.ctl.slot = none := by simp_all
    simp [undelivered, ControlLink.undelivered, formBatch, hs]
  next => rfl

/-- A posting to a queue with room adds its notice at the end of what is undelivered (R186). -/
theorem State.postNotice_undelivered (s : State) (n : Notice) (h : s.ctl.notices.length < 32) :
    (s.postNotice n).undelivered = s.undelivered ++ [n] := by
  rw [postNotice, if_pos h, formationTest_undelivered]
  simp [undelivered, ControlLink.undelivered, joinNotice]

/-- A posting to a full queue is counted as lost and leaves the rest of the state (R186). -/
theorem State.postNotice_full (s : State) (n : Notice) (h : 32 ≤ s.ctl.notices.length) :
    s.postNotice n = { s with ctl := { s.ctl with lost := bump s.ctl.lost } } := by
  rw [postNotice, if_neg (by omega)]

theorem State.post_undelivered (s : State) (k : NoticeKind) (c : Option CarId) (a b : BitVec 16)
    (h : s.ctl.notices.length < 32) :
    (s.post k c a b).undelivered = s.undelivered
      ++ [{ kind := k, car := c, position := s.odo.position, valueA := a, valueB := b }] :=
  postNotice_undelivered _ _ h

/-- A posting leaves at most one more notice in the queue, and never more than 32 (R186). -/
theorem State.postNotice_length (s : State) (n : Notice) :
    (s.postNotice n).ctl.notices.length ≤ s.ctl.notices.length + 1 := by
  unfold postNotice formationTest
  split
  · split
    · simp [formBatch, joinNotice]; omega
    · simp [joinNotice]
  · simp

theorem State.post_length (s : State) (k : NoticeKind) (c : Option CarId) (a b : BitVec 16) :
    (s.post k c a b).ctl.notices.length ≤ s.ctl.notices.length + 1 := postNotice_length _ _

theorem State.postNotice_fits (s : State) (n : Notice) (h : s.ctl.notices.length ≤ 32) :
    (s.postNotice n).ctl.notices.length ≤ 32 := by
  by_cases hl : s.ctl.notices.length < 32
  · exact Nat.le_trans (postNotice_length _ _) (by omega)
  · rw [postNotice_full _ _ (by omega)]; exact h

theorem State.post_fits (s : State) (k : NoticeKind) (c : Option CarId) (a b : BitVec 16)
    (h : s.ctl.notices.length ≤ 32) : (s.post k c a b).ctl.notices.length ≤ 32 := postNotice_fits _ _ h

end Sys2Proof.Machine
end

