-- ==== Sys2Proof/Laws/Cars.lean ====
section
/-! SUPPORT. Changes of mode and of a car's state, and the reactions to causes: what each leaves, and what
becomes of every car's record. -/

namespace Sys2Proof.Machine

@[simp] theorem State.changeMode_now (s : State) (m : Mode) : (s.changeMode m).now = s.now := by
  simp [changeMode]
@[simp] theorem State.changeMode_odo (s : State) (m : Mode) : (s.changeMode m).odo = s.odo := by
  simp [changeMode]
@[simp] theorem State.changeMode_route (s : State) (m : Mode) : (s.changeMode m).route = s.route := by
  simp [changeMode]
@[simp] theorem State.changeMode_gateOpen (s : State) (m : Mode) : (s.changeMode m).gateOpen = s.gateOpen := by
  simp [changeMode]
@[simp] theorem State.changeMode_frameStart (s : State) (m : Mode) : (s.changeMode m).frameStart = s.frameStart := by
  simp [changeMode]
@[simp] theorem State.changeMode_cars (s : State) (m : Mode) : (s.changeMode m).cars = s.cars := by
  simp [changeMode]
@[simp] theorem State.changeMode_link (s : State) (m : Mode) : (s.changeMode m).link = s.link := by
  simp [changeMode]
@[simp] theorem State.changeMode_sup (s : State) (m : Mode) : (s.changeMode m).sup = s.sup := by
  simp [changeMode]
@[simp] theorem State.changeMode_mon (s : State) (m : Mode) : (s.changeMode m).mon = s.mon := by
  simp [changeMode]
@[simp] theorem State.changeMode_pending (s : State) (m : Mode) : (s.changeMode m).pending = s.pending := by
  simp [changeMode]
@[simp] theorem State.changeMode_settings (s : State) (m : Mode) : (s.changeMode m).unit.settings = s.unit.settings := by
  simp [changeMode]
@[simp] theorem State.changeMode_stagedLaw (s : State) (m : Mode) : (s.changeMode m).unit.stagedLaw = s.unit.stagedLaw := by
  simp [changeMode]
@[simp] theorem State.changeMode_stagedGeneration (s : State) (m : Mode) : (s.changeMode m).unit.stagedGeneration = s.unit.stagedGeneration := by
  simp [changeMode]
@[simp] theorem State.changeMode_trainSet (s : State) (m : Mode) : (s.changeMode m).unit.trainSet = s.unit.trainSet := by
  simp [changeMode]
@[simp] theorem State.changeMode_resetCause (s : State) (m : Mode) : (s.changeMode m).unit.resetCause = s.unit.resetCause := by
  simp [changeMode]
@[simp] theorem State.changeMode_rxBuffer (s : State) (m : Mode) : (s.changeMode m).ctl.rxBuffer = s.ctl.rxBuffer := by
  simp [changeMode]
@[simp] theorem State.changeMode_rxLast (s : State) (m : Mode) : (s.changeMode m).ctl.rxLast = s.ctl.rxLast := by
  simp [changeMode]
@[simp] theorem State.changeMode_fifo (s : State) (m : Mode) : (s.changeMode m).ctl.fifo = s.ctl.fifo := by
  simp [changeMode]
@[simp] theorem State.changeMode_replies (s : State) (m : Mode) : (s.changeMode m).ctl.replies = s.ctl.replies := by
  simp [changeMode]
@[simp] theorem State.changeMode_hold (s : State) (m : Mode) : (s.changeMode m).ctl.hold = s.ctl.hold := by
  simp [changeMode]
@[simp] theorem State.changeMode_crcErrors (s : State) (m : Mode) : (s.changeMode m).ctl.crcErrors = s.ctl.crcErrors := by
  simp [changeMode]
@[simp] theorem State.changeMode_dropped (s : State) (m : Mode) : (s.changeMode m).ctl.dropped = s.ctl.dropped := by
  simp [changeMode]

@[simp] theorem State.changeMode_mode (s : State) (m : Mode) : (s.changeMode m).unit.mode = m := by
  simp [changeMode]

@[simp] theorem State.settle_now (s : State) : (s.settle).now = s.now := by
  unfold settle; split <;> simp
@[simp] theorem State.settle_odo (s : State) : (s.settle).odo = s.odo := by
  unfold settle; split <;> simp
@[simp] theorem State.settle_route (s : State) : (s.settle).route = s.route := by
  unfold settle; split <;> simp
@[simp] theorem State.settle_gateOpen (s : State) : (s.settle).gateOpen = s.gateOpen := by
  unfold settle; split <;> simp
@[simp] theorem State.settle_frameStart (s : State) : (s.settle).frameStart = s.frameStart := by
  unfold settle; split <;> simp
@[simp] theorem State.settle_cars (s : State) : (s.settle).cars = s.cars := by
  unfold settle; split <;> simp
@[simp] theorem State.settle_link (s : State) : (s.settle).link = s.link := by
  unfold settle; split <;> simp
@[simp] theorem State.settle_sup (s : State) : (s.settle).sup = s.sup := by
  unfold settle; split <;> simp
@[simp] theorem State.settle_mon (s : State) : (s.settle).mon = s.mon := by
  unfold settle; split <;> simp
@[simp] theorem State.settle_pending (s : State) : (s.settle).pending = s.pending := by
  unfold settle; split <;> simp
@[simp] theorem State.settle_settings (s : State) : (s.settle).unit.settings = s.unit.settings := by
  unfold settle; split <;> simp
@[simp] theorem State.settle_stagedLaw (s : State) : (s.settle).unit.stagedLaw = s.unit.stagedLaw := by
  unfold settle; split <;> simp
@[simp] theorem State.settle_stagedGeneration (s : State) : (s.settle).unit.stagedGeneration = s.unit.stagedGeneration := by
  unfold settle; split <;> simp
@[simp] theorem State.settle_trainSet (s : State) : (s.settle).unit.trainSet = s.unit.trainSet := by
  unfold settle; split <;> simp
@[simp] theorem State.settle_resetCause (s : State) : (s.settle).unit.resetCause = s.unit.resetCause := by
  unfold settle; split <;> simp
@[simp] theorem State.settle_rxBuffer (s : State) : (s.settle).ctl.rxBuffer = s.ctl.rxBuffer := by
  unfold settle; split <;> simp
@[simp] theorem State.settle_rxLast (s : State) : (s.settle).ctl.rxLast = s.ctl.rxLast := by
  unfold settle; split <;> simp
@[simp] theorem State.settle_fifo (s : State) : (s.settle).ctl.fifo = s.ctl.fifo := by
  unfold settle; split <;> simp
@[simp] theorem State.settle_replies (s : State) : (s.settle).ctl.replies = s.ctl.replies := by
  unfold settle; split <;> simp
@[simp] theorem State.settle_hold (s : State) : (s.settle).ctl.hold = s.ctl.hold := by
  unfold settle; split <;> simp
@[simp] theorem State.settle_crcErrors (s : State) : (s.settle).ctl.crcErrors = s.ctl.crcErrors := by
  unfold settle; split <;> simp
@[simp] theorem State.settle_dropped (s : State) : (s.settle).ctl.dropped = s.ctl.dropped := by
  unfold settle; split <;> simp

@[simp] theorem State.configured_settle (s : State) : s.settle.configured = s.configured := by simp [configured]

/-- The completion test makes the mode CONFIG in a complete drain, and else leaves it (R100, R169). -/
theorem State.settle_mode (s : State) :
    s.settle.unit.mode = if s.unit.mode = .draining ∧ s.drainComplete = true then .config else s.unit.mode := by
  unfold settle; split <;> simp_all

/-- Outside a complete drain the completion test does nothing. -/
theorem State.settle_eq (s : State) (h : s.unit.mode ≠ .draining ∨ s.drainComplete = false) : s.settle = s := by
  unfold settle; rcases h with h | h <;> simp [h]

@[simp] theorem State.enter_now (s : State) (i : CarId) (st : CarState) (c : CarCause) : (s.enter i st c).now = s.now := by
  simp [enter]
@[simp] theorem State.enter_odo (s : State) (i : CarId) (st : CarState) (c : CarCause) : (s.enter i st c).odo = s.odo := by
  simp [enter]
@[simp] theorem State.enter_route (s : State) (i : CarId) (st : CarState) (c : CarCause) : (s.enter i st c).route = s.route := by
  simp [enter]
@[simp] theorem State.enter_gateOpen (s : State) (i : CarId) (st : CarState) (c : CarCause) : (s.enter i st c).gateOpen = s.gateOpen := by
  simp [enter]
@[simp] theorem State.enter_frameStart (s : State) (i : CarId) (st : CarState) (c : CarCause) : (s.enter i st c).frameStart = s.frameStart := by
  simp [enter]
@[simp] theorem State.enter_link (s : State) (i : CarId) (st : CarState) (c : CarCause) : (s.enter i st c).link = s.link := by
  simp [enter]
@[simp] theorem State.enter_sup (s : State) (i : CarId) (st : CarState) (c : CarCause) : (s.enter i st c).sup = s.sup := by
  simp [enter]
@[simp] theorem State.enter_mon (s : State) (i : CarId) (st : CarState) (c : CarCause) : (s.enter i st c).mon = s.mon := by
  simp [enter]
@[simp] theorem State.enter_unit (s : State) (i : CarId) (st : CarState) (c : CarCause) : (s.enter i st c).unit = s.unit := by
  simp [enter]
@[simp] theorem State.enter_pending (s : State) (i : CarId) (st : CarState) (c : CarCause) : (s.enter i st c).pending = s.pending := by
  simp [enter]
@[simp] theorem State.enter_rxBuffer (s : State) (i : CarId) (st : CarState) (c : CarCause) : (s.enter i st c).ctl.rxBuffer = s.ctl.rxBuffer := by
  simp [enter]
@[simp] theorem State.enter_rxLast (s : State) (i : CarId) (st : CarState) (c : CarCause) : (s.enter i st c).ctl.rxLast = s.ctl.rxLast := by
  simp [enter]
@[simp] theorem State.enter_fifo (s : State) (i : CarId) (st : CarState) (c : CarCause) : (s.enter i st c).ctl.fifo = s.ctl.fifo := by
  simp [enter]
@[simp] theorem State.enter_replies (s : State) (i : CarId) (st : CarState) (c : CarCause) : (s.enter i st c).ctl.replies = s.ctl.replies := by
  simp [enter]
@[simp] theorem State.enter_hold (s : State) (i : CarId) (st : CarState) (c : CarCause) : (s.enter i st c).ctl.hold = s.ctl.hold := by
  simp [enter]
@[simp] theorem State.enter_crcErrors (s : State) (i : CarId) (st : CarState) (c : CarCause) : (s.enter i st c).ctl.crcErrors = s.ctl.crcErrors := by
  simp [enter]
@[simp] theorem State.enter_dropped (s : State) (i : CarId) (st : CarState) (c : CarCause) : (s.enter i st c).ctl.dropped = s.ctl.dropped := by
  simp [enter]

/-- Entering a state: the record of the car, with its target forced to 0 (Table 5-1). -/
theorem State.enter_get (s : State) (i j : CarId) (st : CarState) (c : CarCause) :
    (s.enter i st c).cars[j]
      = if i = j then { s.cars[i] with state := st, target := 0, reason := .forcedZero } else s.cars[j] := by
  simp [enter, Vector.getElem_set, Fin.ext_iff]

theorem State.enter_undelivered (s : State) (i : CarId) (st : CarState) (c : CarCause)
    (h : s.ctl.notices.length < 32) :
    (s.enter i st c).undelivered = s.undelivered ++ [s.carNotice i st c] := by
  simp only [enter]; rw [post_undelivered _ _ _ _ _ (by simpa using h)]; rfl

@[simp] theorem State.transition_now (s : State) (i : CarId) (st : CarState) (c : CarCause) : (s.transition i st c).now = s.now := by
  simp [transition]
@[simp] theorem State.transition_odo (s : State) (i : CarId) (st : CarState) (c : CarCause) : (s.transition i st c).odo = s.odo := by
  simp [transition]
@[simp] theorem State.transition_route (s : State) (i : CarId) (st : CarState) (c : CarCause) : (s.transition i st c).route = s.route := by
  simp [transition]
@[simp] theorem State.transition_gateOpen (s : State) (i : CarId) (st : CarState) (c : CarCause) : (s.transition i st c).gateOpen = s.gateOpen := by
  simp [transition]
@[simp] theorem State.transition_frameStart (s : State) (i : CarId) (st : CarState) (c : CarCause) : (s.transition i st c).frameStart = s.frameStart := by
  simp [transition]
@[simp] theorem State.transition_link (s : State) (i : CarId) (st : CarState) (c : CarCause) : (s.transition i st c).link = s.link := by
  simp [transition]
@[simp] theorem State.transition_sup (s : State) (i : CarId) (st : CarState) (c : CarCause) : (s.transition i st c).sup = s.sup := by
  simp [transition]
@[simp] theorem State.transition_mon (s : State) (i : CarId) (st : CarState) (c : CarCause) : (s.transition i st c).mon = s.mon := by
  simp [transition]
@[simp] theorem State.transition_pending (s : State) (i : CarId) (st : CarState) (c : CarCause) : (s.transition i st c).pending = s.pending := by
  simp [transition]
@[simp] theorem State.transition_settings (s : State) (i : CarId) (st : CarState) (c : CarCause) : (s.transition i st c).unit.settings = s.unit.settings := by
  simp [transition]
@[simp] theorem State.transition_stagedLaw (s : State) (i : CarId) (st : CarState) (c : CarCause) : (s.transition i st c).unit.stagedLaw = s.unit.stagedLaw := by
  simp [transition]
@[simp] theorem State.transition_stagedGeneration (s : State) (i : CarId) (st : CarState) (c : CarCause) : (s.transition i st c).unit.stagedGeneration = s.unit.stagedGeneration := by
  simp [transition]
@[simp] theorem State.transition_trainSet (s : State) (i : CarId) (st : CarState) (c : CarCause) : (s.transition i st c).unit.trainSet = s.unit.trainSet := by
  simp [transition]
@[simp] theorem State.transition_resetCause (s : State) (i : CarId) (st : CarState) (c : CarCause) : (s.transition i st c).unit.resetCause = s.unit.resetCause := by
  simp [transition]
@[simp] theorem State.transition_rxBuffer (s : State) (i : CarId) (st : CarState) (c : CarCause) : (s.transition i st c).ctl.rxBuffer = s.ctl.rxBuffer := by
  simp [transition]
@[simp] theorem State.transition_rxLast (s : State) (i : CarId) (st : CarState) (c : CarCause) : (s.transition i st c).ctl.rxLast = s.ctl.rxLast := by
  simp [transition]
@[simp] theorem State.transition_fifo (s : State) (i : CarId) (st : CarState) (c : CarCause) : (s.transition i st c).ctl.fifo = s.ctl.fifo := by
  simp [transition]
@[simp] theorem State.transition_replies (s : State) (i : CarId) (st : CarState) (c : CarCause) : (s.transition i st c).ctl.replies = s.ctl.replies := by
  simp [transition]
@[simp] theorem State.transition_hold (s : State) (i : CarId) (st : CarState) (c : CarCause) : (s.transition i st c).ctl.hold = s.ctl.hold := by
  simp [transition]
@[simp] theorem State.transition_crcErrors (s : State) (i : CarId) (st : CarState) (c : CarCause) : (s.transition i st c).ctl.crcErrors = s.ctl.crcErrors := by
  simp [transition]
@[simp] theorem State.transition_dropped (s : State) (i : CarId) (st : CarState) (c : CarCause) : (s.transition i st c).ctl.dropped = s.ctl.dropped := by
  simp [transition]

theorem State.transition_get (s : State) (i j : CarId) (st : CarState) (c : CarCause) :
    (s.transition i st c).cars[j]
      = if i = j then { s.cars[i] with state := st, target := 0, reason := .forcedZero } else s.cars[j] := by
  rw [transition, settle_cars, enter_get]

/-- A transition outside a drain that it completes is the entry alone. -/
theorem State.transition_eq (s : State) (i : CarId) (st : CarState) (c : CarCause)
    (h : s.unit.mode ≠ .draining ∨ (s.enter i st c).drainComplete = false) :
    s.transition i st c = s.enter i st c := by
  rw [transition, settle_eq]; simpa using h

@[simp] theorem State.centreCar_now (s : State) (c : CarCause) (i : CarId) : (s.centreCar c i).now = s.now := by
  unfold centreCar; split <;> simp
@[simp] theorem State.centreCar_odo (s : State) (c : CarCause) (i : CarId) : (s.centreCar c i).odo = s.odo := by
  unfold centreCar; split <;> simp
@[simp] theorem State.centreCar_route (s : State) (c : CarCause) (i : CarId) : (s.centreCar c i).route = s.route := by
  unfold centreCar; split <;> simp
@[simp] theorem State.centreCar_gateOpen (s : State) (c : CarCause) (i : CarId) : (s.centreCar c i).gateOpen = s.gateOpen := by
  unfold centreCar; split <;> simp
@[simp] theorem State.centreCar_frameStart (s : State) (c : CarCause) (i : CarId) : (s.centreCar c i).frameStart = s.frameStart := by
  unfold centreCar; split <;> simp
@[simp] theorem State.centreCar_link (s : State) (c : CarCause) (i : CarId) : (s.centreCar c i).link = s.link := by
  unfold centreCar; split <;> simp
@[simp] theorem State.centreCar_sup (s : State) (c : CarCause) (i : CarId) : (s.centreCar c i).sup = s.sup := by
  unfold centreCar; split <;> simp
@[simp] theorem State.centreCar_mon (s : State) (c : CarCause) (i : CarId) : (s.centreCar c i).mon = s.mon := by
  unfold centreCar; split <;> simp
@[simp] theorem State.centreCar_pending (s : State) (c : CarCause) (i : CarId) : (s.centreCar c i).pending = s.pending := by
  unfold centreCar; split <;> simp
@[simp] theorem State.centreCar_settings (s : State) (c : CarCause) (i : CarId) : (s.centreCar c i).unit.settings = s.unit.settings := by
  unfold centreCar; split <;> simp
@[simp] theorem State.centreCar_stagedLaw (s : State) (c : CarCause) (i : CarId) : (s.centreCar c i).unit.stagedLaw = s.unit.stagedLaw := by
  unfold centreCar; split <;> simp
@[simp] theorem State.centreCar_stagedGeneration (s : State) (c : CarCause) (i : CarId) : (s.centreCar c i).unit.stagedGeneration = s.unit.stagedGeneration := by
  unfold centreCar; split <;> simp
@[simp] theorem State.centreCar_trainSet (s : State) (c : CarCause) (i : CarId) : (s.centreCar c i).unit.trainSet = s.unit.trainSet := by
  unfold centreCar; split <;> simp
@[simp] theorem State.centreCar_resetCause (s : State) (c : CarCause) (i : CarId) : (s.centreCar c i).unit.resetCause = s.unit.resetCause := by
  unfold centreCar; split <;> simp
@[simp] theorem State.centreCar_rxBuffer (s : State) (c : CarCause) (i : CarId) : (s.centreCar c i).ctl.rxBuffer = s.ctl.rxBuffer := by
  unfold centreCar; split <;> simp
@[simp] theorem State.centreCar_rxLast (s : State) (c : CarCause) (i : CarId) : (s.centreCar c i).ctl.rxLast = s.ctl.rxLast := by
  unfold centreCar; split <;> simp
@[simp] theorem State.centreCar_fifo (s : State) (c : CarCause) (i : CarId) : (s.centreCar c i).ctl.fifo = s.ctl.fifo := by
  unfold centreCar; split <;> simp
@[simp] theorem State.centreCar_replies (s : State) (c : CarCause) (i : CarId) : (s.centreCar c i).ctl.replies = s.ctl.replies := by
  unfold centreCar; split <;> simp
@[simp] theorem State.centreCar_hold (s : State) (c : CarCause) (i : CarId) : (s.centreCar c i).ctl.hold = s.ctl.hold := by
  unfold centreCar; split <;> simp
@[simp] theorem State.centreCar_crcErrors (s : State) (c : CarCause) (i : CarId) : (s.centreCar c i).ctl.crcErrors = s.ctl.crcErrors := by
  unfold centreCar; split <;> simp
@[simp] theorem State.centreCar_dropped (s : State) (c : CarCause) (i : CarId) : (s.centreCar c i).ctl.dropped = s.ctl.dropped := by
  unfold centreCar; split <;> simp

@[simp] theorem State.centreAll_now (s : State) (c : CarCause) : (s.centreAll c).now = s.now := by
  rw [centreAll]; generalize allCars = l; exact foldl_view (fun s : State => s.now) _ (fun s i => centreCar_now s c i) _ _
@[simp] theorem State.centreAll_odo (s : State) (c : CarCause) : (s.centreAll c).odo = s.odo := by
  rw [centreAll]; generalize allCars = l; exact foldl_view (fun s : State => s.odo) _ (fun s i => centreCar_odo s c i) _ _
@[simp] theorem State.centreAll_route (s : State) (c : CarCause) : (s.centreAll c).route = s.route := by
  rw [centreAll]; generalize allCars = l; exact foldl_view (fun s : State => s.route) _ (fun s i => centreCar_route s c i) _ _
@[simp] theorem State.centreAll_gateOpen (s : State) (c : CarCause) : (s.centreAll c).gateOpen = s.gateOpen := by
  rw [centreAll]; generalize allCars = l; exact foldl_view (fun s : State => s.gateOpen) _ (fun s i => centreCar_gateOpen s c i) _ _
@[simp] theorem State.centreAll_frameStart (s : State) (c : CarCause) : (s.centreAll c).frameStart = s.frameStart := by
  rw [centreAll]; generalize allCars = l; exact foldl_view (fun s : State => s.frameStart) _ (fun s i => centreCar_frameStart s c i) _ _
@[simp] theorem State.centreAll_link (s : State) (c : CarCause) : (s.centreAll c).link = s.link := by
  rw [centreAll]; generalize allCars = l; exact foldl_view (fun s : State => s.link) _ (fun s i => centreCar_link s c i) _ _
@[simp] theorem State.centreAll_sup (s : State) (c : CarCause) : (s.centreAll c).sup = s.sup := by
  rw [centreAll]; generalize allCars = l; exact foldl_view (fun s : State => s.sup) _ (fun s i => centreCar_sup s c i) _ _
@[simp] theorem State.centreAll_mon (s : State) (c : CarCause) : (s.centreAll c).mon = s.mon := by
  rw [centreAll]; generalize allCars = l; exact foldl_view (fun s : State => s.mon) _ (fun s i => centreCar_mon s c i) _ _
@[simp] theorem State.centreAll_pending (s : State) (c : CarCause) : (s.centreAll c).pending = s.pending := by
  rw [centreAll]; generalize allCars = l; exact foldl_view (fun s : State => s.pending) _ (fun s i => centreCar_pending s c i) _ _
@[simp] theorem State.centreAll_settings (s : State) (c : CarCause) : (s.centreAll c).unit.settings = s.unit.settings := by
  rw [centreAll]; generalize allCars = l; exact foldl_view (fun s : State => s.unit.settings) _ (fun s i => centreCar_settings s c i) _ _
@[simp] theorem State.centreAll_stagedLaw (s : State) (c : CarCause) : (s.centreAll c).unit.stagedLaw = s.unit.stagedLaw := by
  rw [centreAll]; generalize allCars = l; exact foldl_view (fun s : State => s.unit.stagedLaw) _ (fun s i => centreCar_stagedLaw s c i) _ _
@[simp] theorem State.centreAll_stagedGeneration (s : State) (c : CarCause) : (s.centreAll c).unit.stagedGeneration = s.unit.stagedGeneration := by
  rw [centreAll]; generalize allCars = l; exact foldl_view (fun s : State => s.unit.stagedGeneration) _ (fun s i => centreCar_stagedGeneration s c i) _ _
@[simp] theorem State.centreAll_trainSet (s : State) (c : CarCause) : (s.centreAll c).unit.trainSet = s.unit.trainSet := by
  rw [centreAll]; generalize allCars = l; exact foldl_view (fun s : State => s.unit.trainSet) _ (fun s i => centreCar_trainSet s c i) _ _
@[simp] theorem State.centreAll_resetCause (s : State) (c : CarCause) : (s.centreAll c).unit.resetCause = s.unit.resetCause := by
  rw [centreAll]; generalize allCars = l; exact foldl_view (fun s : State => s.unit.resetCause) _ (fun s i => centreCar_resetCause s c i) _ _
@[simp] theorem State.centreAll_rxBuffer (s : State) (c : CarCause) : (s.centreAll c).ctl.rxBuffer = s.ctl.rxBuffer := by
  rw [centreAll]; generalize allCars = l; exact foldl_view (fun s : State => s.ctl.rxBuffer) _ (fun s i => centreCar_rxBuffer s c i) _ _
@[simp] theorem State.centreAll_rxLast (s : State) (c : CarCause) : (s.centreAll c).ctl.rxLast = s.ctl.rxLast := by
  rw [centreAll]; generalize allCars = l; exact foldl_view (fun s : State => s.ctl.rxLast) _ (fun s i => centreCar_rxLast s c i) _ _
@[simp] theorem State.centreAll_fifo (s : State) (c : CarCause) : (s.centreAll c).ctl.fifo = s.ctl.fifo := by
  rw [centreAll]; generalize allCars = l; exact foldl_view (fun s : State => s.ctl.fifo) _ (fun s i => centreCar_fifo s c i) _ _
@[simp] theorem State.centreAll_replies (s : State) (c : CarCause) : (s.centreAll c).ctl.replies = s.ctl.replies := by
  rw [centreAll]; generalize allCars = l; exact foldl_view (fun s : State => s.ctl.replies) _ (fun s i => centreCar_replies s c i) _ _
@[simp] theorem State.centreAll_hold (s : State) (c : CarCause) : (s.centreAll c).ctl.hold = s.ctl.hold := by
  rw [centreAll]; generalize allCars = l; exact foldl_view (fun s : State => s.ctl.hold) _ (fun s i => centreCar_hold s c i) _ _
@[simp] theorem State.centreAll_crcErrors (s : State) (c : CarCause) : (s.centreAll c).ctl.crcErrors = s.ctl.crcErrors := by
  rw [centreAll]; generalize allCars = l; exact foldl_view (fun s : State => s.ctl.crcErrors) _ (fun s i => centreCar_crcErrors s c i) _ _
@[simp] theorem State.centreAll_dropped (s : State) (c : CarCause) : (s.centreAll c).ctl.dropped = s.ctl.dropped := by
  rw [centreAll]; generalize allCars = l; exact foldl_view (fun s : State => s.ctl.dropped) _ (fun s i => centreCar_dropped s c i) _ _

theorem State.centreCar_get (s : State) (c : CarCause) (i j : CarId) :
    (s.centreCar c i).cars[j] = if i = j then s.cars[i].centred else s.cars[j] := by
  unfold centreCar CarChannel.centred CarChannel.into
  by_cases h : s.cars[i].state = .tracking
  · simp only [h, if_true, transition_get]
  · simp only [h, if_false]; split
    · next hij => subst hij; rfl
    · rfl

theorem CarChannel.centred_centred (c : CarChannel) : c.centred.centred = c.centred := by
  unfold centred into; split <;> simp_all

/-- Centring a list of cars centres exactly the records of the list. -/
theorem State.centre_list_get (l : List CarId) (s : State) (c : CarCause) (j : CarId) :
    (l.foldl (fun s i => s.centreCar c i) s).cars[j] = if j ∈ l then s.cars[j].centred else s.cars[j] := by
  induction l generalizing s with
  | nil => simp
  | cons i l ih =>
    rw [List.foldl_cons, ih, centreCar_get]
    by_cases hij : i = j
    · subst hij; simp only [if_true, List.mem_cons, true_or, CarChannel.centred_centred, ite_self]
    · simp [hij, Ne.symm hij]

theorem mem_allCars (i : CarId) : i ∈ allCars := by revert i; decide

/-- A train-level cause: every TRACKING car goes RETURNING, and every other record stays (R91). -/
theorem State.centreAll_get (s : State) (c : CarCause) (j : CarId) :
    (s.centreAll c).cars[j] = s.cars[j].centred := by
  rw [centreAll, centre_list_get, if_pos (mem_allCars j)]

theorem CarChannel.centred_state (c : CarChannel) : c.centred.state ≠ .tracking := by
  unfold centred into; split <;> simp_all

/-- After a train-level cause no car is TRACKING. -/
theorem State.centreAll_state (s : State) (c : CarCause) (j : CarId) : (s.centreAll c).cars[j].state ≠ .tracking := by
  rw [centreAll_get]; exact CarChannel.centred_state _

@[simp] theorem State.carCause_now (s : State) (i : CarId) (c : LatchReason) (r : Reaction) : (s.carCause i c r).now = s.now := by
  unfold carCause; split <;> simp
@[simp] theorem State.carCause_odo (s : State) (i : CarId) (c : LatchReason) (r : Reaction) : (s.carCause i c r).odo = s.odo := by
  unfold carCause; split <;> simp
@[simp] theorem State.carCause_route (s : State) (i : CarId) (c : LatchReason) (r : Reaction) : (s.carCause i c r).route = s.route := by
  unfold carCause; split <;> simp
@[simp] theorem State.carCause_gateOpen (s : State) (i : CarId) (c : LatchReason) (r : Reaction) : (s.carCause i c r).gateOpen = s.gateOpen := by
  unfold carCause; split <;> simp
@[simp] theorem State.carCause_frameStart (s : State) (i : CarId) (c : LatchReason) (r : Reaction) : (s.carCause i c r).frameStart = s.frameStart := by
  unfold carCause; split <;> simp
@[simp] theorem State.carCause_link (s : State) (i : CarId) (c : LatchReason) (r : Reaction) : (s.carCause i c r).link = s.link := by
  unfold carCause; split <;> simp
@[simp] theorem State.carCause_sup (s : State) (i : CarId) (c : LatchReason) (r : Reaction) : (s.carCause i c r).sup = s.sup := by
  unfold carCause; split <;> simp
@[simp] theorem State.carCause_mon (s : State) (i : CarId) (c : LatchReason) (r : Reaction) : (s.carCause i c r).mon = s.mon := by
  unfold carCause; split <;> simp
@[simp] theorem State.carCause_pending (s : State) (i : CarId) (c : LatchReason) (r : Reaction) : (s.carCause i c r).pending = s.pending := by
  unfold carCause; split <;> simp
@[simp] theorem State.carCause_settings (s : State) (i : CarId) (c : LatchReason) (r : Reaction) : (s.carCause i c r).unit.settings = s.unit.settings := by
  unfold carCause; split <;> simp
@[simp] theorem State.carCause_stagedLaw (s : State) (i : CarId) (c : LatchReason) (r : Reaction) : (s.carCause i c r).unit.stagedLaw = s.unit.stagedLaw := by
  unfold carCause; split <;> simp
@[simp] theorem State.carCause_stagedGeneration (s : State) (i : CarId) (c : LatchReason) (r : Reaction) : (s.carCause i c r).unit.stagedGeneration = s.unit.stagedGeneration := by
  unfold carCause; split <;> simp
@[simp] theorem State.carCause_trainSet (s : State) (i : CarId) (c : LatchReason) (r : Reaction) : (s.carCause i c r).unit.trainSet = s.unit.trainSet := by
  unfold carCause; split <;> simp
@[simp] theorem State.carCause_resetCause (s : State) (i : CarId) (c : LatchReason) (r : Reaction) : (s.carCause i c r).unit.resetCause = s.unit.resetCause := by
  unfold carCause; split <;> simp
@[simp] theorem State.carCause_rxBuffer (s : State) (i : CarId) (c : LatchReason) (r : Reaction) : (s.carCause i c r).ctl.rxBuffer = s.ctl.rxBuffer := by
  unfold carCause; split <;> simp
@[simp] theorem State.carCause_rxLast (s : State) (i : CarId) (c : LatchReason) (r : Reaction) : (s.carCause i c r).ctl.rxLast = s.ctl.rxLast := by
  unfold carCause; split <;> simp
@[simp] theorem State.carCause_fifo (s : State) (i : CarId) (c : LatchReason) (r : Reaction) : (s.carCause i c r).ctl.fifo = s.ctl.fifo := by
  unfold carCause; split <;> simp
@[simp] theorem State.carCause_replies (s : State) (i : CarId) (c : LatchReason) (r : Reaction) : (s.carCause i c r).ctl.replies = s.ctl.replies := by
  unfold carCause; split <;> simp
@[simp] theorem State.carCause_hold (s : State) (i : CarId) (c : LatchReason) (r : Reaction) : (s.carCause i c r).ctl.hold = s.ctl.hold := by
  unfold carCause; split <;> simp
@[simp] theorem State.carCause_crcErrors (s : State) (i : CarId) (c : LatchReason) (r : Reaction) : (s.carCause i c r).ctl.crcErrors = s.ctl.crcErrors := by
  unfold carCause; split <;> simp
@[simp] theorem State.carCause_dropped (s : State) (i : CarId) (c : LatchReason) (r : Reaction) : (s.carCause i c r).ctl.dropped = s.ctl.dropped := by
  unfold carCause; split <;> simp

/-- A latch reason of DRIVE_FAULT stays, and any other gives way to the arising cause (R92). -/
theorem mergeLatch_eq (old : Option LatchReason) (c : LatchReason) :
    mergeLatch old c = if old = some .driveFault then .driveFault else c := by
  rcases old with _ | _ | _ <;> rfl

theorem State.carCause_get (s : State) (i j : CarId) (c : LatchReason) (r : Reaction) :
    (s.carCause i c r).cars[j] = if i = j then s.cars[i].caused c r else s.cars[j] := by
  unfold carCause CarChannel.caused CarChannel.into
  by_cases hij : i = j
  · subst hij
    cases hs : s.cars[i].state <;> cases r
      <;> simp only [transition_get, setLatch_get, mergeLatch_eq, if_true, reduceCtorEq, if_false]
        <;> rw [← hs]
  · cases s.cars[i].state <;> cases r <;> simp only [transition_get, setLatch_get, hij, if_false]

end Sys2Proof.Machine
end

