-- ==== Sys2Proof/Laws/Track.lean ====
section
/-! SUPPORT. The Odometry Unit, the Route Queue and the Supervisor's table: what each operation leaves. -/

namespace Sys2Proof.Machine

/-- R32 -/
@[simp] theorem State.retireSegments_frame (s : State) :
    (s.retireSegments).now = s.now ∧
    (s.retireSegments).odo = s.odo ∧
    (s.retireSegments).gateOpen = s.gateOpen ∧
    (s.retireSegments).frameStart = s.frameStart ∧
    (s.retireSegments).cars = s.cars ∧
    (s.retireSegments).link = s.link ∧
    (s.retireSegments).sup = s.sup ∧
    (s.retireSegments).mon = s.mon ∧
    (s.retireSegments).unit = s.unit ∧
    (s.retireSegments).ctl = s.ctl ∧
    (s.retireSegments).pending = s.pending ∧
    (s.retireSegments).route.anchored = s.route.anchored ∧
    (s.retireSegments).route.endChainage = s.route.endChainage ∧
    (s.retireSegments).route.commit = s.route.commit ∧
    (s.retireSegments).route.doubt = s.route.doubt ∧
    (s.retireSegments).route.lastLead = s.route.lastLead ∧
    (s.retireSegments).route.lowLatch = s.route.lowLatch ∧
    (s.retireSegments).route.exhaustedLatch = s.route.exhaustedLatch := by
  dsimp only [retireSegments]; (repeat' split) <;> simp

/-- R140 -/
@[simp] theorem State.retireMismatches_frame (s : State) :
    (s.retireMismatches).now = s.now ∧
    (s.retireMismatches).odo = s.odo ∧
    (s.retireMismatches).route = s.route ∧
    (s.retireMismatches).gateOpen = s.gateOpen ∧
    (s.retireMismatches).frameStart = s.frameStart ∧
    (s.retireMismatches).cars = s.cars ∧
    (s.retireMismatches).link = s.link ∧
    (s.retireMismatches).mon = s.mon ∧
    (s.retireMismatches).unit = s.unit ∧
    (s.retireMismatches).ctl = s.ctl ∧
    (s.retireMismatches).pending = s.pending ∧
    (s.retireMismatches).sup.persistence = s.sup.persistence ∧
    (s.retireMismatches).sup.suspended = s.sup.suspended := by
  simp [retireMismatches]

/-- R7 -/
@[simp] theorem State.movePosition_frame (s : State) (p r : Nat) :
    (s.movePosition p r).now = s.now ∧
    (s.movePosition p r).gateOpen = s.gateOpen ∧
    (s.movePosition p r).frameStart = s.frameStart ∧
    (s.movePosition p r).cars = s.cars ∧
    (s.movePosition p r).link = s.link ∧
    (s.movePosition p r).mon = s.mon ∧
    (s.movePosition p r).unit = s.unit ∧
    (s.movePosition p r).ctl = s.ctl ∧
    (s.movePosition p r).pending = s.pending ∧
    (s.movePosition p r).odo.tachoA = s.odo.tachoA ∧
    (s.movePosition p r).odo.tachoB = s.odo.tachoB ∧
    (s.movePosition p r).odo.selected = s.odo.selected ∧
    (s.movePosition p r).odo.positionValid = s.odo.positionValid ∧
    (s.movePosition p r).odo.windowStart = s.odo.windowStart ∧
    (s.movePosition p r).odo.disagreements = s.odo.disagreements ∧
    (s.movePosition p r).odo.agreements = s.odo.agreements ∧
    (s.movePosition p r).odo.doubt = s.odo.doubt ∧
    (s.movePosition p r).odo.markerFilter = s.odo.markerFilter ∧
    (s.movePosition p r).odo.sequence = s.odo.sequence ∧
    (s.movePosition p r).odo.captures = s.odo.captures ∧
    (s.movePosition p r).odo.position = p ∧
    (s.movePosition p r).odo.remainder = r ∧
    (s.movePosition p r).route.anchored = s.route.anchored ∧
    (s.movePosition p r).route.endChainage = s.route.endChainage ∧
    (s.movePosition p r).route.commit = s.route.commit ∧
    (s.movePosition p r).route.doubt = s.route.doubt ∧
    (s.movePosition p r).route.lastLead = s.route.lastLead ∧
    (s.movePosition p r).route.lowLatch = s.route.lowLatch ∧
    (s.movePosition p r).route.exhaustedLatch = s.route.exhaustedLatch ∧
    (s.movePosition p r).sup.persistence = s.sup.persistence ∧
    (s.movePosition p r).sup.suspended = s.sup.suspended := by
  dsimp only [movePosition]; (repeat' split) <;> simp

/-- Retirement as one cut of the ring (R32). -/
theorem retireFrom_eq (rear h : Nat) (l : List Segment) :
    retireFrom rear h l
      = (match (l.takeWhile (fun g => g.stop ≤ rear)).getLast? with | some g => g.stop | none => h,
         l.dropWhile (fun g => g.stop ≤ rear)) := by
  induction l generalizing h with
  | nil => simp [retireFrom]
  | cons g l ih =>
    unfold retireFrom
    by_cases hg : g.stop ≤ rear
    · simp only [hg, if_true, ih, List.takeWhile_cons, List.dropWhile_cons, decide_true]
      cases hl : (l.takeWhile (fun g => decide (g.stop ≤ rear))).getLast? <;> simp [List.getLast?_cons, hl]
    · simp [hg]

/-- What a change of the position and the remainder leaves and retires (R7, R32, R140). -/
theorem State.movePosition_spec (s : State) (p r : Nat) :
    s.movePosition p r = { s with
        odo := { s.odo with position := p, remainder := r }
        route := (s.movePosition p r).route, sup := (s.movePosition p r).sup }
      ∧ s.Retires (s.movePosition p r) := by
  have hm : ∀ a b : Nat, (!decide (a < b)) = decide (b ≤ a) := by
    intro a b; rw [Bool.eq_iff_iff]; simp
  let moved : State := { s with odo := { s.odo with position := p, remainder := r } }
  have segments : moved.retireSegments = { moved with route := moved.retireSegments.route }
      ∧ (s.odo.positionValid = true → moved.retireSegments.route = { s.route with
          ring := s.route.ring.dropWhile (fun g => g.stop ≤ moved.rearPosition)
          headStart := match (s.route.ring.takeWhile (fun g => g.stop ≤ moved.rearPosition)).getLast? with
            | some g => g.stop
            | none => s.route.headStart }) := by
    unfold retireSegments
    by_cases hv : moved.odo.positionValid = true
    · rw [if_pos hv, retireFrom_eq]; exact ⟨rfl, fun _ => rfl⟩
    · rw [if_neg hv]; exact ⟨rfl, fun h => absurd h hv⟩
  obtain ⟨e₁, e₂⟩ := segments
  rcases Nat.lt_trichotomy s.odo.position p with h | h | h
  · have e : s.movePosition p r = moved.retireSegments.retireMismatches := by
      unfold movePosition; rw [if_pos h]
    rw [e, e₁]
    unfold retireMismatches
    simp only [hm]
    exact ⟨rfl, fun he => absurd he (Nat.ne_of_gt h), fun _ hv => e₂ hv,
      fun he => absurd he (Nat.not_le_of_gt h), fun _ => rfl⟩
  · have e : s.movePosition p r = moved := by
      unfold movePosition; rw [if_neg (by omega), if_neg (by omega)]
    rw [e]
    exact ⟨rfl, fun _ => rfl, fun he => absurd h.symm he, fun _ => rfl, fun he => absurd he (by simp [moved, h])⟩
  · have e : s.movePosition p r = moved.retireSegments := by
      unfold movePosition; rw [if_neg (by omega), if_pos h]
    rw [e, e₁]
    exact ⟨rfl, fun he => absurd he (Nat.ne_of_lt h), fun _ hv => e₂ hv, fun _ => rfl,
      fun he => absurd he (Nat.not_lt_of_gt h)⟩

@[simp] theorem State.setTacho_frame (s : State) (ch : Tacho) (t : TachoChannel) :
    (s.setTacho ch t).now = s.now ∧
    (s.setTacho ch t).route = s.route ∧
    (s.setTacho ch t).gateOpen = s.gateOpen ∧
    (s.setTacho ch t).frameStart = s.frameStart ∧
    (s.setTacho ch t).cars = s.cars ∧
    (s.setTacho ch t).link = s.link ∧
    (s.setTacho ch t).sup = s.sup ∧
    (s.setTacho ch t).mon = s.mon ∧
    (s.setTacho ch t).unit = s.unit ∧
    (s.setTacho ch t).ctl = s.ctl ∧
    (s.setTacho ch t).pending = s.pending ∧
    (s.setTacho ch t).odo.selected = s.odo.selected ∧
    (s.setTacho ch t).odo.positionValid = s.odo.positionValid ∧
    (s.setTacho ch t).odo.windowStart = s.odo.windowStart ∧
    (s.setTacho ch t).odo.disagreements = s.odo.disagreements ∧
    (s.setTacho ch t).odo.agreements = s.odo.agreements ∧
    (s.setTacho ch t).odo.doubt = s.odo.doubt ∧
    (s.setTacho ch t).odo.markerFilter = s.odo.markerFilter ∧
    (s.setTacho ch t).odo.sequence = s.odo.sequence ∧
    (s.setTacho ch t).odo.captures = s.odo.captures ∧
    (s.setTacho ch t).odo.position = s.odo.position ∧
    (s.setTacho ch t).odo.remainder = s.odo.remainder := by
  cases ch <;> simp [setTacho]

@[simp] theorem State.advance_frame (s : State) (d : Nat) :
    (s.advance d).now = s.now ∧
    (s.advance d).gateOpen = s.gateOpen ∧
    (s.advance d).frameStart = s.frameStart ∧
    (s.advance d).cars = s.cars ∧
    (s.advance d).link = s.link ∧
    (s.advance d).mon = s.mon ∧
    (s.advance d).unit = s.unit ∧
    (s.advance d).ctl = s.ctl ∧
    (s.advance d).pending = s.pending ∧
    (s.advance d).odo.tachoA = s.odo.tachoA ∧
    (s.advance d).odo.tachoB = s.odo.tachoB ∧
    (s.advance d).odo.selected = s.odo.selected ∧
    (s.advance d).odo.positionValid = s.odo.positionValid ∧
    (s.advance d).odo.windowStart = s.odo.windowStart ∧
    (s.advance d).odo.disagreements = s.odo.disagreements ∧
    (s.advance d).odo.agreements = s.odo.agreements ∧
    (s.advance d).odo.doubt = s.odo.doubt ∧
    (s.advance d).odo.markerFilter = s.odo.markerFilter ∧
    (s.advance d).odo.sequence = s.odo.sequence ∧
    (s.advance d).odo.captures = s.odo.captures ∧
    (s.advance d).route.anchored = s.route.anchored ∧
    (s.advance d).route.endChainage = s.route.endChainage ∧
    (s.advance d).route.commit = s.route.commit ∧
    (s.advance d).route.doubt = s.route.doubt ∧
    (s.advance d).route.lastLead = s.route.lastLead ∧
    (s.advance d).route.lowLatch = s.route.lowLatch ∧
    (s.advance d).route.exhaustedLatch = s.route.exhaustedLatch ∧
    (s.advance d).sup.persistence = s.sup.persistence ∧
    (s.advance d).sup.suspended = s.sup.suspended := by
  dsimp only [advance]; (repeat' split) <;> simp

@[simp] theorem State.acceptPulse_frame (s : State) (ch : Tacho) (t : Nat) :
    (s.acceptPulse ch t).now = s.now ∧
    (s.acceptPulse ch t).gateOpen = s.gateOpen ∧
    (s.acceptPulse ch t).frameStart = s.frameStart ∧
    (s.acceptPulse ch t).cars = s.cars ∧
    (s.acceptPulse ch t).link = s.link ∧
    (s.acceptPulse ch t).mon = s.mon ∧
    (s.acceptPulse ch t).unit = s.unit ∧
    (s.acceptPulse ch t).ctl = s.ctl ∧
    (s.acceptPulse ch t).pending = s.pending ∧
    (s.acceptPulse ch t).odo.selected = s.odo.selected ∧
    (s.acceptPulse ch t).odo.positionValid = s.odo.positionValid ∧
    (s.acceptPulse ch t).odo.windowStart = s.odo.windowStart ∧
    (s.acceptPulse ch t).odo.disagreements = s.odo.disagreements ∧
    (s.acceptPulse ch t).odo.agreements = s.odo.agreements ∧
    (s.acceptPulse ch t).odo.doubt = s.odo.doubt ∧
    (s.acceptPulse ch t).odo.markerFilter = s.odo.markerFilter ∧
    (s.acceptPulse ch t).odo.sequence = s.odo.sequence ∧
    (s.acceptPulse ch t).odo.captures = s.odo.captures ∧
    (s.acceptPulse ch t).route.anchored = s.route.anchored ∧
    (s.acceptPulse ch t).route.endChainage = s.route.endChainage ∧
    (s.acceptPulse ch t).route.commit = s.route.commit ∧
    (s.acceptPulse ch t).route.doubt = s.route.doubt ∧
    (s.acceptPulse ch t).route.lastLead = s.route.lastLead ∧
    (s.acceptPulse ch t).route.lowLatch = s.route.lowLatch ∧
    (s.acceptPulse ch t).route.exhaustedLatch = s.route.exhaustedLatch ∧
    (s.acceptPulse ch t).sup.persistence = s.sup.persistence ∧
    (s.acceptPulse ch t).sup.suspended = s.sup.suspended := by
  dsimp only [acceptPulse]; (repeat' split) <;> simp

@[simp] theorem State.postDoubt_frame (s : State) :
    (s.postDoubt).now = s.now ∧
    (s.postDoubt).odo = s.odo ∧
    (s.postDoubt).route = s.route ∧
    (s.postDoubt).gateOpen = s.gateOpen ∧
    (s.postDoubt).frameStart = s.frameStart ∧
    (s.postDoubt).cars = s.cars ∧
    (s.postDoubt).link = s.link ∧
    (s.postDoubt).sup = s.sup ∧
    (s.postDoubt).mon = s.mon ∧
    (s.postDoubt).unit = s.unit ∧
    (s.postDoubt).ctl.rxBuffer = s.ctl.rxBuffer ∧
    (s.postDoubt).ctl.rxLast = s.ctl.rxLast ∧
    (s.postDoubt).ctl.fifo = s.ctl.fifo ∧
    (s.postDoubt).ctl.replies = s.ctl.replies ∧
    (s.postDoubt).ctl.hold = s.ctl.hold ∧
    (s.postDoubt).ctl.crcErrors = s.ctl.crcErrors ∧
    (s.postDoubt).ctl.dropped = s.ctl.dropped ∧
    (s.postDoubt).pending = s.pending := by
  simp [postDoubt]

@[simp] theorem State.windowDisagrees_frame (s : State) (a b : Nat) :
    (s.windowDisagrees a b).now = s.now ∧
    (s.windowDisagrees a b).route = s.route ∧
    (s.windowDisagrees a b).gateOpen = s.gateOpen ∧
    (s.windowDisagrees a b).frameStart = s.frameStart ∧
    (s.windowDisagrees a b).cars = s.cars ∧
    (s.windowDisagrees a b).link = s.link ∧
    (s.windowDisagrees a b).sup = s.sup ∧
    (s.windowDisagrees a b).mon = s.mon ∧
    (s.windowDisagrees a b).unit = s.unit ∧
    (s.windowDisagrees a b).ctl.rxBuffer = s.ctl.rxBuffer ∧
    (s.windowDisagrees a b).ctl.rxLast = s.ctl.rxLast ∧
    (s.windowDisagrees a b).ctl.fifo = s.ctl.fifo ∧
    (s.windowDisagrees a b).ctl.replies = s.ctl.replies ∧
    (s.windowDisagrees a b).ctl.hold = s.ctl.hold ∧
    (s.windowDisagrees a b).ctl.crcErrors = s.ctl.crcErrors ∧
    (s.windowDisagrees a b).ctl.dropped = s.ctl.dropped ∧
    (s.windowDisagrees a b).pending = s.pending ∧
    (s.windowDisagrees a b).odo.tachoA = s.odo.tachoA ∧
    (s.windowDisagrees a b).odo.tachoB = s.odo.tachoB ∧
    (s.windowDisagrees a b).odo.position = s.odo.position ∧
    (s.windowDisagrees a b).odo.positionValid = s.odo.positionValid ∧
    (s.windowDisagrees a b).odo.remainder = s.odo.remainder ∧
    (s.windowDisagrees a b).odo.windowStart = s.odo.windowStart ∧
    (s.windowDisagrees a b).odo.markerFilter = s.odo.markerFilter ∧
    (s.windowDisagrees a b).odo.sequence = s.odo.sequence ∧
    (s.windowDisagrees a b).odo.captures = s.odo.captures := by
  dsimp only [windowDisagrees]; (repeat' split) <;> simp

@[simp] theorem State.windowAgrees_frame (s : State) (a b : Nat) :
    (s.windowAgrees a b).now = s.now ∧
    (s.windowAgrees a b).route = s.route ∧
    (s.windowAgrees a b).gateOpen = s.gateOpen ∧
    (s.windowAgrees a b).frameStart = s.frameStart ∧
    (s.windowAgrees a b).cars = s.cars ∧
    (s.windowAgrees a b).link = s.link ∧
    (s.windowAgrees a b).sup = s.sup ∧
    (s.windowAgrees a b).mon = s.mon ∧
    (s.windowAgrees a b).unit = s.unit ∧
    (s.windowAgrees a b).ctl.rxBuffer = s.ctl.rxBuffer ∧
    (s.windowAgrees a b).ctl.rxLast = s.ctl.rxLast ∧
    (s.windowAgrees a b).ctl.fifo = s.ctl.fifo ∧
    (s.windowAgrees a b).ctl.replies = s.ctl.replies ∧
    (s.windowAgrees a b).ctl.hold = s.ctl.hold ∧
    (s.windowAgrees a b).ctl.crcErrors = s.ctl.crcErrors ∧
    (s.windowAgrees a b).ctl.dropped = s.ctl.dropped ∧
    (s.windowAgrees a b).pending = s.pending ∧
    (s.windowAgrees a b).odo.tachoA = s.odo.tachoA ∧
    (s.windowAgrees a b).odo.tachoB = s.odo.tachoB ∧
    (s.windowAgrees a b).odo.position = s.odo.position ∧
    (s.windowAgrees a b).odo.positionValid = s.odo.positionValid ∧
    (s.windowAgrees a b).odo.remainder = s.odo.remainder ∧
    (s.windowAgrees a b).odo.windowStart = s.odo.windowStart ∧
    (s.windowAgrees a b).odo.markerFilter = s.odo.markerFilter ∧
    (s.windowAgrees a b).odo.sequence = s.odo.sequence ∧
    (s.windowAgrees a b).odo.captures = s.odo.captures := by
  dsimp only [windowAgrees]; (repeat' split) <;> simp

@[simp] theorem State.compareWindow_frame (s : State) (a b : Nat) :
    (s.compareWindow a b).now = s.now ∧
    (s.compareWindow a b).route = s.route ∧
    (s.compareWindow a b).gateOpen = s.gateOpen ∧
    (s.compareWindow a b).frameStart = s.frameStart ∧
    (s.compareWindow a b).cars = s.cars ∧
    (s.compareWindow a b).link = s.link ∧
    (s.compareWindow a b).sup = s.sup ∧
    (s.compareWindow a b).mon = s.mon ∧
    (s.compareWindow a b).unit = s.unit ∧
    (s.compareWindow a b).ctl.rxBuffer = s.ctl.rxBuffer ∧
    (s.compareWindow a b).ctl.rxLast = s.ctl.rxLast ∧
    (s.compareWindow a b).ctl.fifo = s.ctl.fifo ∧
    (s.compareWindow a b).ctl.replies = s.ctl.replies ∧
    (s.compareWindow a b).ctl.hold = s.ctl.hold ∧
    (s.compareWindow a b).ctl.crcErrors = s.ctl.crcErrors ∧
    (s.compareWindow a b).ctl.dropped = s.ctl.dropped ∧
    (s.compareWindow a b).pending = s.pending ∧
    (s.compareWindow a b).odo.tachoA = s.odo.tachoA ∧
    (s.compareWindow a b).odo.tachoB = s.odo.tachoB ∧
    (s.compareWindow a b).odo.position = s.odo.position ∧
    (s.compareWindow a b).odo.positionValid = s.odo.positionValid ∧
    (s.compareWindow a b).odo.remainder = s.odo.remainder ∧
    (s.compareWindow a b).odo.windowStart = s.odo.windowStart ∧
    (s.compareWindow a b).odo.markerFilter = s.odo.markerFilter ∧
    (s.compareWindow a b).odo.sequence = s.odo.sequence ∧
    (s.compareWindow a b).odo.captures = s.odo.captures := by
  dsimp only [compareWindow]; (repeat' split) <;> simp

@[simp] theorem State.captureMarker_frame (s : State) :
    (s.captureMarker).now = s.now ∧
    (s.captureMarker).route = s.route ∧
    (s.captureMarker).gateOpen = s.gateOpen ∧
    (s.captureMarker).frameStart = s.frameStart ∧
    (s.captureMarker).cars = s.cars ∧
    (s.captureMarker).link = s.link ∧
    (s.captureMarker).sup = s.sup ∧
    (s.captureMarker).mon = s.mon ∧
    (s.captureMarker).unit = s.unit ∧
    (s.captureMarker).ctl.rxBuffer = s.ctl.rxBuffer ∧
    (s.captureMarker).ctl.rxLast = s.ctl.rxLast ∧
    (s.captureMarker).ctl.fifo = s.ctl.fifo ∧
    (s.captureMarker).ctl.replies = s.ctl.replies ∧
    (s.captureMarker).ctl.hold = s.ctl.hold ∧
    (s.captureMarker).ctl.crcErrors = s.ctl.crcErrors ∧
    (s.captureMarker).ctl.dropped = s.ctl.dropped ∧
    (s.captureMarker).pending = s.pending ∧
    (s.captureMarker).odo.tachoA = s.odo.tachoA ∧
    (s.captureMarker).odo.tachoB = s.odo.tachoB ∧
    (s.captureMarker).odo.selected = s.odo.selected ∧
    (s.captureMarker).odo.position = s.odo.position ∧
    (s.captureMarker).odo.positionValid = s.odo.positionValid ∧
    (s.captureMarker).odo.remainder = s.odo.remainder ∧
    (s.captureMarker).odo.windowStart = s.odo.windowStart ∧
    (s.captureMarker).odo.disagreements = s.odo.disagreements ∧
    (s.captureMarker).odo.agreements = s.odo.agreements ∧
    (s.captureMarker).odo.doubt = s.odo.doubt ∧
    (s.captureMarker).odo.markerFilter = s.odo.markerFilter := by
  dsimp only [captureMarker]; (repeat' split) <;> simp

@[simp] theorem State.markerSample_frame (s : State) (b : Bool) :
    (s.markerSample b).now = s.now ∧
    (s.markerSample b).route = s.route ∧
    (s.markerSample b).gateOpen = s.gateOpen ∧
    (s.markerSample b).frameStart = s.frameStart ∧
    (s.markerSample b).cars = s.cars ∧
    (s.markerSample b).link = s.link ∧
    (s.markerSample b).sup = s.sup ∧
    (s.markerSample b).mon = s.mon ∧
    (s.markerSample b).unit = s.unit ∧
    (s.markerSample b).ctl.rxBuffer = s.ctl.rxBuffer ∧
    (s.markerSample b).ctl.rxLast = s.ctl.rxLast ∧
    (s.markerSample b).ctl.fifo = s.ctl.fifo ∧
    (s.markerSample b).ctl.replies = s.ctl.replies ∧
    (s.markerSample b).ctl.hold = s.ctl.hold ∧
    (s.markerSample b).ctl.crcErrors = s.ctl.crcErrors ∧
    (s.markerSample b).ctl.dropped = s.ctl.dropped ∧
    (s.markerSample b).pending = s.pending ∧
    (s.markerSample b).odo.tachoA = s.odo.tachoA ∧
    (s.markerSample b).odo.tachoB = s.odo.tachoB ∧
    (s.markerSample b).odo.selected = s.odo.selected ∧
    (s.markerSample b).odo.position = s.odo.position ∧
    (s.markerSample b).odo.positionValid = s.odo.positionValid ∧
    (s.markerSample b).odo.remainder = s.odo.remainder ∧
    (s.markerSample b).odo.windowStart = s.odo.windowStart ∧
    (s.markerSample b).odo.disagreements = s.odo.disagreements ∧
    (s.markerSample b).odo.agreements = s.odo.agreements ∧
    (s.markerSample b).odo.doubt = s.odo.doubt := by
  dsimp only [markerSample]; (repeat' split) <;> simp

@[simp] theorem State.reportLookAhead_frame (s : State) (p : Nat) :
    (s.reportLookAhead p).now = s.now ∧
    (s.reportLookAhead p).odo = s.odo ∧
    (s.reportLookAhead p).gateOpen = s.gateOpen ∧
    (s.reportLookAhead p).frameStart = s.frameStart ∧
    (s.reportLookAhead p).cars = s.cars ∧
    (s.reportLookAhead p).link = s.link ∧
    (s.reportLookAhead p).sup = s.sup ∧
    (s.reportLookAhead p).mon = s.mon ∧
    (s.reportLookAhead p).unit = s.unit ∧
    (s.reportLookAhead p).ctl = s.ctl ∧
    (s.reportLookAhead p).pending = s.pending ∧
    (s.reportLookAhead p).route.ring = s.route.ring ∧
    (s.reportLookAhead p).route.anchored = s.route.anchored ∧
    (s.reportLookAhead p).route.headStart = s.route.headStart ∧
    (s.reportLookAhead p).route.endChainage = s.route.endChainage ∧
    (s.reportLookAhead p).route.doubt = s.route.doubt ∧
    (s.reportLookAhead p).route.lastLead = s.route.lastLead ∧
    (s.reportLookAhead p).route.lowLatch = s.route.lowLatch ∧
    (s.reportLookAhead p).route.exhaustedLatch = s.route.exhaustedLatch := by
  dsimp only [reportLookAhead]; (repeat' split) <;> simp

@[simp] theorem State.lowWaterTest_frame (s : State) (p : Nat) :
    (s.lowWaterTest p).now = s.now ∧
    (s.lowWaterTest p).odo = s.odo ∧
    (s.lowWaterTest p).gateOpen = s.gateOpen ∧
    (s.lowWaterTest p).frameStart = s.frameStart ∧
    (s.lowWaterTest p).cars = s.cars ∧
    (s.lowWaterTest p).link = s.link ∧
    (s.lowWaterTest p).sup = s.sup ∧
    (s.lowWaterTest p).mon = s.mon ∧
    (s.lowWaterTest p).unit = s.unit ∧
    (s.lowWaterTest p).ctl.rxBuffer = s.ctl.rxBuffer ∧
    (s.lowWaterTest p).ctl.rxLast = s.ctl.rxLast ∧
    (s.lowWaterTest p).ctl.fifo = s.ctl.fifo ∧
    (s.lowWaterTest p).ctl.replies = s.ctl.replies ∧
    (s.lowWaterTest p).ctl.hold = s.ctl.hold ∧
    (s.lowWaterTest p).ctl.crcErrors = s.ctl.crcErrors ∧
    (s.lowWaterTest p).ctl.dropped = s.ctl.dropped ∧
    (s.lowWaterTest p).pending = s.pending ∧
    (s.lowWaterTest p).route.ring = s.route.ring ∧
    (s.lowWaterTest p).route.anchored = s.route.anchored ∧
    (s.lowWaterTest p).route.headStart = s.route.headStart ∧
    (s.lowWaterTest p).route.endChainage = s.route.endChainage ∧
    (s.lowWaterTest p).route.commit = s.route.commit ∧
    (s.lowWaterTest p).route.doubt = s.route.doubt ∧
    (s.lowWaterTest p).route.lastLead = s.route.lastLead := by
  dsimp only [lowWaterTest]; (repeat' split) <;> simp

@[simp] theorem State.exhaustedTest_frame (s : State) (p : Nat) :
    (s.exhaustedTest p).now = s.now ∧
    (s.exhaustedTest p).odo = s.odo ∧
    (s.exhaustedTest p).gateOpen = s.gateOpen ∧
    (s.exhaustedTest p).frameStart = s.frameStart ∧
    (s.exhaustedTest p).cars = s.cars ∧
    (s.exhaustedTest p).link = s.link ∧
    (s.exhaustedTest p).sup = s.sup ∧
    (s.exhaustedTest p).mon = s.mon ∧
    (s.exhaustedTest p).unit = s.unit ∧
    (s.exhaustedTest p).ctl.rxBuffer = s.ctl.rxBuffer ∧
    (s.exhaustedTest p).ctl.rxLast = s.ctl.rxLast ∧
    (s.exhaustedTest p).ctl.fifo = s.ctl.fifo ∧
    (s.exhaustedTest p).ctl.replies = s.ctl.replies ∧
    (s.exhaustedTest p).ctl.hold = s.ctl.hold ∧
    (s.exhaustedTest p).ctl.crcErrors = s.ctl.crcErrors ∧
    (s.exhaustedTest p).ctl.dropped = s.ctl.dropped ∧
    (s.exhaustedTest p).pending = s.pending ∧
    (s.exhaustedTest p).route.ring = s.route.ring ∧
    (s.exhaustedTest p).route.anchored = s.route.anchored ∧
    (s.exhaustedTest p).route.headStart = s.route.headStart ∧
    (s.exhaustedTest p).route.endChainage = s.route.endChainage ∧
    (s.exhaustedTest p).route.commit = s.route.commit ∧
    (s.exhaustedTest p).route.doubt = s.route.doubt ∧
    (s.exhaustedTest p).route.lastLead = s.route.lastLead := by
  dsimp only [exhaustedTest]; (repeat' split) <;> simp

@[simp] theorem State.evaluateLead_frame (s : State) (l : Option Nat) :
    (s.evaluateLead l).now = s.now ∧
    (s.evaluateLead l).odo = s.odo ∧
    (s.evaluateLead l).gateOpen = s.gateOpen ∧
    (s.evaluateLead l).frameStart = s.frameStart ∧
    (s.evaluateLead l).cars = s.cars ∧
    (s.evaluateLead l).link = s.link ∧
    (s.evaluateLead l).sup = s.sup ∧
    (s.evaluateLead l).mon = s.mon ∧
    (s.evaluateLead l).unit = s.unit ∧
    (s.evaluateLead l).ctl.rxBuffer = s.ctl.rxBuffer ∧
    (s.evaluateLead l).ctl.rxLast = s.ctl.rxLast ∧
    (s.evaluateLead l).ctl.fifo = s.ctl.fifo ∧
    (s.evaluateLead l).ctl.replies = s.ctl.replies ∧
    (s.evaluateLead l).ctl.hold = s.ctl.hold ∧
    (s.evaluateLead l).ctl.crcErrors = s.ctl.crcErrors ∧
    (s.evaluateLead l).ctl.dropped = s.ctl.dropped ∧
    (s.evaluateLead l).pending = s.pending ∧
    (s.evaluateLead l).route.ring = s.route.ring ∧
    (s.evaluateLead l).route.anchored = s.route.anchored ∧
    (s.evaluateLead l).route.headStart = s.route.headStart ∧
    (s.evaluateLead l).route.endChainage = s.route.endChainage ∧
    (s.evaluateLead l).route.commit = s.route.commit ∧
    (s.evaluateLead l).route.doubt = s.route.doubt := by
  dsimp only [evaluateLead]; (repeat' split) <;> simp

@[simp] theorem State.raiseDoubt_frame (s : State) (i j : CarId) (d : Int) :
    (s.raiseDoubt i j d).now = s.now ∧
    (s.raiseDoubt i j d).odo = s.odo ∧
    (s.raiseDoubt i j d).gateOpen = s.gateOpen ∧
    (s.raiseDoubt i j d).frameStart = s.frameStart ∧
    (s.raiseDoubt i j d).link = s.link ∧
    (s.raiseDoubt i j d).sup = s.sup ∧
    (s.raiseDoubt i j d).mon = s.mon ∧
    (s.raiseDoubt i j d).unit.settings = s.unit.settings ∧
    (s.raiseDoubt i j d).unit.stagedLaw = s.unit.stagedLaw ∧
    (s.raiseDoubt i j d).unit.stagedGeneration = s.unit.stagedGeneration ∧
    (s.raiseDoubt i j d).unit.trainSet = s.unit.trainSet ∧
    (s.raiseDoubt i j d).unit.resetCause = s.unit.resetCause ∧
    (s.raiseDoubt i j d).ctl.rxBuffer = s.ctl.rxBuffer ∧
    (s.raiseDoubt i j d).ctl.rxLast = s.ctl.rxLast ∧
    (s.raiseDoubt i j d).ctl.fifo = s.ctl.fifo ∧
    (s.raiseDoubt i j d).ctl.replies = s.ctl.replies ∧
    (s.raiseDoubt i j d).ctl.hold = s.ctl.hold ∧
    (s.raiseDoubt i j d).ctl.crcErrors = s.ctl.crcErrors ∧
    (s.raiseDoubt i j d).ctl.dropped = s.ctl.dropped ∧
    (s.raiseDoubt i j d).pending = s.pending ∧
    (s.raiseDoubt i j d).route.doubt = true ∧
    (s.raiseDoubt i j d).route.headStart = s.route.headStart ∧
    (s.raiseDoubt i j d).route.endChainage = s.route.endChainage ∧
    (s.raiseDoubt i j d).route.ring = s.route.ring ∧
    (s.raiseDoubt i j d).route.anchored = s.route.anchored ∧
    (s.raiseDoubt i j d).route.commit = s.route.commit ∧
    (s.raiseDoubt i j d).route.lastLead = s.route.lastLead ∧
    (s.raiseDoubt i j d).route.lowLatch = s.route.lowLatch ∧
    (s.raiseDoubt i j d).route.exhaustedLatch = s.route.exhaustedLatch := by
  unfold raiseDoubt; split <;> simp_all

end Sys2Proof.Machine
end

