-- ==== Sys2Proof/Laws/Train.lean ====
section
/-! SUPPORT. The Channel Controller, the Lateral Supervisor, the Actuator Link Master and the Condition
Monitor: what each operation leaves. -/

namespace Sys2Proof.Machine

@[simp] theorem State.copyLaw_frame (s : State) (i : CarId) :
    (s.copyLaw i).now = s.now ∧
    (s.copyLaw i).odo = s.odo ∧
    (s.copyLaw i).route = s.route ∧
    (s.copyLaw i).gateOpen = s.gateOpen ∧
    (s.copyLaw i).frameStart = s.frameStart ∧
    (s.copyLaw i).link = s.link ∧
    (s.copyLaw i).sup = s.sup ∧
    (s.copyLaw i).mon = s.mon ∧
    (s.copyLaw i).unit = s.unit ∧
    (s.copyLaw i).ctl = s.ctl ∧
    (s.copyLaw i).pending = s.pending := by
  simp [copyLaw]

@[simp] theorem State.takeLaw_frame (s : State) (i : CarId) :
    (s.takeLaw i).now = s.now ∧
    (s.takeLaw i).odo = s.odo ∧
    (s.takeLaw i).route = s.route ∧
    (s.takeLaw i).gateOpen = s.gateOpen ∧
    (s.takeLaw i).frameStart = s.frameStart ∧
    (s.takeLaw i).link = s.link ∧
    (s.takeLaw i).sup = s.sup ∧
    (s.takeLaw i).mon = s.mon ∧
    (s.takeLaw i).unit = s.unit ∧
    (s.takeLaw i).ctl.rxBuffer = s.ctl.rxBuffer ∧
    (s.takeLaw i).ctl.rxLast = s.ctl.rxLast ∧
    (s.takeLaw i).ctl.fifo = s.ctl.fifo ∧
    (s.takeLaw i).ctl.replies = s.ctl.replies ∧
    (s.takeLaw i).ctl.hold = s.ctl.hold ∧
    (s.takeLaw i).ctl.crcErrors = s.ctl.crcErrors ∧
    (s.takeLaw i).ctl.dropped = s.ctl.dropped ∧
    (s.takeLaw i).pending = s.pending := by
  simp [takeLaw]

@[simp] theorem State.frameLaw_frame (s : State) (i : CarId) :
    (s.frameLaw i).now = s.now ∧
    (s.frameLaw i).odo = s.odo ∧
    (s.frameLaw i).route = s.route ∧
    (s.frameLaw i).gateOpen = s.gateOpen ∧
    (s.frameLaw i).frameStart = s.frameStart ∧
    (s.frameLaw i).link = s.link ∧
    (s.frameLaw i).sup = s.sup ∧
    (s.frameLaw i).mon = s.mon ∧
    (s.frameLaw i).unit = s.unit ∧
    (s.frameLaw i).ctl.rxBuffer = s.ctl.rxBuffer ∧
    (s.frameLaw i).ctl.rxLast = s.ctl.rxLast ∧
    (s.frameLaw i).ctl.fifo = s.ctl.fifo ∧
    (s.frameLaw i).ctl.replies = s.ctl.replies ∧
    (s.frameLaw i).ctl.hold = s.ctl.hold ∧
    (s.frameLaw i).ctl.crcErrors = s.ctl.crcErrors ∧
    (s.frameLaw i).ctl.dropped = s.ctl.dropped ∧
    (s.frameLaw i).pending = s.pending := by
  dsimp only [frameLaw]; (repeat' split) <;> simp

@[simp] theorem State.drainCar_frame (s : State) (i : CarId) :
    (s.drainCar i).now = s.now ∧
    (s.drainCar i).odo = s.odo ∧
    (s.drainCar i).route = s.route ∧
    (s.drainCar i).gateOpen = s.gateOpen ∧
    (s.drainCar i).frameStart = s.frameStart ∧
    (s.drainCar i).link = s.link ∧
    (s.drainCar i).sup = s.sup ∧
    (s.drainCar i).mon = s.mon ∧
    (s.drainCar i).unit.settings = s.unit.settings ∧
    (s.drainCar i).unit.stagedLaw = s.unit.stagedLaw ∧
    (s.drainCar i).unit.stagedGeneration = s.unit.stagedGeneration ∧
    (s.drainCar i).unit.trainSet = s.unit.trainSet ∧
    (s.drainCar i).unit.resetCause = s.unit.resetCause ∧
    (s.drainCar i).ctl.rxBuffer = s.ctl.rxBuffer ∧
    (s.drainCar i).ctl.rxLast = s.ctl.rxLast ∧
    (s.drainCar i).ctl.fifo = s.ctl.fifo ∧
    (s.drainCar i).ctl.replies = s.ctl.replies ∧
    (s.drainCar i).ctl.hold = s.ctl.hold ∧
    (s.drainCar i).ctl.crcErrors = s.ctl.crcErrors ∧
    (s.drainCar i).ctl.dropped = s.ctl.dropped ∧
    (s.drainCar i).pending = s.pending := by
  dsimp only [drainCar]; (repeat' split) <;> simp

@[simp] theorem State.stateTest_frame (s : State) (i : CarId) :
    (s.stateTest i).now = s.now ∧
    (s.stateTest i).odo = s.odo ∧
    (s.stateTest i).route = s.route ∧
    (s.stateTest i).gateOpen = s.gateOpen ∧
    (s.stateTest i).frameStart = s.frameStart ∧
    (s.stateTest i).link = s.link ∧
    (s.stateTest i).mon = s.mon ∧
    (s.stateTest i).unit.settings = s.unit.settings ∧
    (s.stateTest i).unit.stagedLaw = s.unit.stagedLaw ∧
    (s.stateTest i).unit.stagedGeneration = s.unit.stagedGeneration ∧
    (s.stateTest i).unit.trainSet = s.unit.trainSet ∧
    (s.stateTest i).unit.resetCause = s.unit.resetCause ∧
    (s.stateTest i).ctl.rxBuffer = s.ctl.rxBuffer ∧
    (s.stateTest i).ctl.rxLast = s.ctl.rxLast ∧
    (s.stateTest i).ctl.fifo = s.ctl.fifo ∧
    (s.stateTest i).ctl.replies = s.ctl.replies ∧
    (s.stateTest i).ctl.hold = s.ctl.hold ∧
    (s.stateTest i).ctl.crcErrors = s.ctl.crcErrors ∧
    (s.stateTest i).ctl.dropped = s.ctl.dropped ∧
    (s.stateTest i).pending = s.pending ∧
    (s.stateTest i).sup.persistence = s.sup.persistence ∧
    (s.stateTest i).sup.mismatches = s.sup.mismatches := by
  dsimp only [stateTest]; (repeat' split) <;> simp

@[simp] theorem State.report_frame (s : State) (d : Demand) :
    (s.report d).now = s.now ∧
    (s.report d).odo = s.odo ∧
    (s.report d).gateOpen = s.gateOpen ∧
    (s.report d).frameStart = s.frameStart ∧
    (s.report d).cars = s.cars ∧
    (s.report d).link = s.link ∧
    (s.report d).sup = s.sup ∧
    (s.report d).mon = s.mon ∧
    (s.report d).unit = s.unit ∧
    (s.report d).ctl = s.ctl ∧
    (s.report d).pending = s.pending ∧
    (s.report d).route.headStart = s.route.headStart ∧
    (s.report d).route.endChainage = s.route.endChainage ∧
    (s.report d).route.ring = s.route.ring ∧
    (s.report d).route.anchored = s.route.anchored ∧
    (s.report d).route.lastLead = s.route.lastLead ∧
    (s.report d).route.lowLatch = s.route.lowLatch ∧
    (s.report d).route.exhaustedLatch = s.route.exhaustedLatch ∧
    (s.report d).route.doubt = s.route.doubt := by
  dsimp only [report]; (repeat' split) <;> simp

@[simp] theorem State.computeCar_frame (s : State) (v : Nat) (i : CarId) :
    (s.computeCar v i).now = s.now ∧
    (s.computeCar v i).odo = s.odo ∧
    (s.computeCar v i).gateOpen = s.gateOpen ∧
    (s.computeCar v i).frameStart = s.frameStart ∧
    (s.computeCar v i).link = s.link ∧
    (s.computeCar v i).mon = s.mon ∧
    (s.computeCar v i).unit.settings = s.unit.settings ∧
    (s.computeCar v i).unit.stagedLaw = s.unit.stagedLaw ∧
    (s.computeCar v i).unit.stagedGeneration = s.unit.stagedGeneration ∧
    (s.computeCar v i).unit.trainSet = s.unit.trainSet ∧
    (s.computeCar v i).unit.resetCause = s.unit.resetCause ∧
    (s.computeCar v i).ctl.rxBuffer = s.ctl.rxBuffer ∧
    (s.computeCar v i).ctl.rxLast = s.ctl.rxLast ∧
    (s.computeCar v i).ctl.fifo = s.ctl.fifo ∧
    (s.computeCar v i).ctl.replies = s.ctl.replies ∧
    (s.computeCar v i).ctl.hold = s.ctl.hold ∧
    (s.computeCar v i).ctl.crcErrors = s.ctl.crcErrors ∧
    (s.computeCar v i).ctl.dropped = s.ctl.dropped ∧
    (s.computeCar v i).pending = s.pending ∧
    (s.computeCar v i).route.headStart = s.route.headStart ∧
    (s.computeCar v i).route.endChainage = s.route.endChainage ∧
    (s.computeCar v i).route.ring = s.route.ring ∧
    (s.computeCar v i).route.anchored = s.route.anchored ∧
    (s.computeCar v i).route.lastLead = s.route.lastLead ∧
    (s.computeCar v i).route.lowLatch = s.route.lowLatch ∧
    (s.computeCar v i).route.exhaustedLatch = s.route.exhaustedLatch ∧
    (s.computeCar v i).route.doubt = s.route.doubt ∧
    (s.computeCar v i).sup.persistence = s.sup.persistence ∧
    (s.computeCar v i).sup.mismatches = s.sup.mismatches := by
  dsimp only [computeCar]; simp

@[simp] theorem State.frameCar_frame (s : State) (v : Nat) (i : CarId) :
    (s.frameCar v i).now = s.now ∧
    (s.frameCar v i).odo = s.odo ∧
    (s.frameCar v i).gateOpen = s.gateOpen ∧
    (s.frameCar v i).frameStart = s.frameStart ∧
    (s.frameCar v i).link = s.link ∧
    (s.frameCar v i).mon = s.mon ∧
    (s.frameCar v i).unit.settings = s.unit.settings ∧
    (s.frameCar v i).unit.stagedLaw = s.unit.stagedLaw ∧
    (s.frameCar v i).unit.stagedGeneration = s.unit.stagedGeneration ∧
    (s.frameCar v i).unit.trainSet = s.unit.trainSet ∧
    (s.frameCar v i).unit.resetCause = s.unit.resetCause ∧
    (s.frameCar v i).ctl.rxBuffer = s.ctl.rxBuffer ∧
    (s.frameCar v i).ctl.rxLast = s.ctl.rxLast ∧
    (s.frameCar v i).ctl.fifo = s.ctl.fifo ∧
    (s.frameCar v i).ctl.replies = s.ctl.replies ∧
    (s.frameCar v i).ctl.hold = s.ctl.hold ∧
    (s.frameCar v i).ctl.crcErrors = s.ctl.crcErrors ∧
    (s.frameCar v i).ctl.dropped = s.ctl.dropped ∧
    (s.frameCar v i).pending = s.pending ∧
    (s.frameCar v i).route.headStart = s.route.headStart ∧
    (s.frameCar v i).route.endChainage = s.route.endChainage ∧
    (s.frameCar v i).route.ring = s.route.ring ∧
    (s.frameCar v i).route.anchored = s.route.anchored ∧
    (s.frameCar v i).route.lastLead = s.route.lastLead ∧
    (s.frameCar v i).route.lowLatch = s.route.lowLatch ∧
    (s.frameCar v i).route.exhaustedLatch = s.route.exhaustedLatch ∧
    (s.frameCar v i).route.doubt = s.route.doubt ∧
    (s.frameCar v i).sup.persistence = s.sup.persistence ∧
    (s.frameCar v i).sup.mismatches = s.sup.mismatches := by
  dsimp only [frameCar]; (repeat' split) <;> simp

@[simp] theorem State.release_frame (s : State) (i : CarId) :
    (s.release i).now = s.now ∧
    (s.release i).odo = s.odo ∧
    (s.release i).route = s.route ∧
    (s.release i).gateOpen = s.gateOpen ∧
    (s.release i).frameStart = s.frameStart ∧
    (s.release i).link = s.link ∧
    (s.release i).sup = s.sup ∧
    (s.release i).mon = s.mon ∧
    (s.release i).unit.settings = s.unit.settings ∧
    (s.release i).unit.stagedLaw = s.unit.stagedLaw ∧
    (s.release i).unit.stagedGeneration = s.unit.stagedGeneration ∧
    (s.release i).unit.trainSet = s.unit.trainSet ∧
    (s.release i).unit.resetCause = s.unit.resetCause ∧
    (s.release i).ctl.rxBuffer = s.ctl.rxBuffer ∧
    (s.release i).ctl.rxLast = s.ctl.rxLast ∧
    (s.release i).ctl.fifo = s.ctl.fifo ∧
    (s.release i).ctl.replies = s.ctl.replies ∧
    (s.release i).ctl.hold = s.ctl.hold ∧
    (s.release i).ctl.crcErrors = s.ctl.crcErrors ∧
    (s.release i).ctl.dropped = s.ctl.dropped ∧
    (s.release i).pending = s.pending := by
  simp [release]

@[simp] theorem State.admitCar_frame (s : State) (i : CarId) :
    (s.admitCar i).now = s.now ∧
    (s.admitCar i).odo = s.odo ∧
    (s.admitCar i).route = s.route ∧
    (s.admitCar i).gateOpen = s.gateOpen ∧
    (s.admitCar i).frameStart = s.frameStart ∧
    (s.admitCar i).link = s.link ∧
    (s.admitCar i).sup = s.sup ∧
    (s.admitCar i).mon = s.mon ∧
    (s.admitCar i).unit.settings = s.unit.settings ∧
    (s.admitCar i).unit.stagedLaw = s.unit.stagedLaw ∧
    (s.admitCar i).unit.stagedGeneration = s.unit.stagedGeneration ∧
    (s.admitCar i).unit.trainSet = s.unit.trainSet ∧
    (s.admitCar i).unit.resetCause = s.unit.resetCause ∧
    (s.admitCar i).ctl.rxBuffer = s.ctl.rxBuffer ∧
    (s.admitCar i).ctl.rxLast = s.ctl.rxLast ∧
    (s.admitCar i).ctl.fifo = s.ctl.fifo ∧
    (s.admitCar i).ctl.replies = s.ctl.replies ∧
    (s.admitCar i).ctl.hold = s.ctl.hold ∧
    (s.admitCar i).ctl.crcErrors = s.ctl.crcErrors ∧
    (s.admitCar i).ctl.dropped = s.ctl.dropped ∧
    (s.admitCar i).pending = s.pending := by
  simp [admitCar]

@[simp] theorem State.dropCar_frame (s : State) (i : CarId) :
    (s.dropCar i).now = s.now ∧
    (s.dropCar i).odo = s.odo ∧
    (s.dropCar i).route = s.route ∧
    (s.dropCar i).gateOpen = s.gateOpen ∧
    (s.dropCar i).frameStart = s.frameStart ∧
    (s.dropCar i).link = s.link ∧
    (s.dropCar i).sup = s.sup ∧
    (s.dropCar i).mon = s.mon ∧
    (s.dropCar i).unit.settings = s.unit.settings ∧
    (s.dropCar i).unit.stagedLaw = s.unit.stagedLaw ∧
    (s.dropCar i).unit.stagedGeneration = s.unit.stagedGeneration ∧
    (s.dropCar i).unit.trainSet = s.unit.trainSet ∧
    (s.dropCar i).unit.resetCause = s.unit.resetCause ∧
    (s.dropCar i).ctl.rxBuffer = s.ctl.rxBuffer ∧
    (s.dropCar i).ctl.rxLast = s.ctl.rxLast ∧
    (s.dropCar i).ctl.fifo = s.ctl.fifo ∧
    (s.dropCar i).ctl.replies = s.ctl.replies ∧
    (s.dropCar i).ctl.hold = s.ctl.hold ∧
    (s.dropCar i).ctl.crcErrors = s.ctl.crcErrors ∧
    (s.dropCar i).ctl.dropped = s.ctl.dropped ∧
    (s.dropCar i).pending = s.pending := by
  simp [dropCar]

@[simp] theorem State.recount_frame (s : State) (i : CarId) :
    (s.recount i).now = s.now ∧
    (s.recount i).odo = s.odo ∧
    (s.recount i).route = s.route ∧
    (s.recount i).gateOpen = s.gateOpen ∧
    (s.recount i).frameStart = s.frameStart ∧
    (s.recount i).link = s.link ∧
    (s.recount i).sup = s.sup ∧
    (s.recount i).mon = s.mon ∧
    (s.recount i).unit.settings = s.unit.settings ∧
    (s.recount i).unit.stagedLaw = s.unit.stagedLaw ∧
    (s.recount i).unit.stagedGeneration = s.unit.stagedGeneration ∧
    (s.recount i).unit.trainSet = s.unit.trainSet ∧
    (s.recount i).unit.resetCause = s.unit.resetCause ∧
    (s.recount i).ctl.rxBuffer = s.ctl.rxBuffer ∧
    (s.recount i).ctl.rxLast = s.ctl.rxLast ∧
    (s.recount i).ctl.fifo = s.ctl.fifo ∧
    (s.recount i).ctl.replies = s.ctl.replies ∧
    (s.recount i).ctl.hold = s.ctl.hold ∧
    (s.recount i).ctl.crcErrors = s.ctl.crcErrors ∧
    (s.recount i).ctl.dropped = s.ctl.dropped ∧
    (s.recount i).pending = s.pending := by
  dsimp only [recount]; (repeat' split) <;> simp

@[simp] theorem State.forgetCar_frame (s : State) (i : CarId) :
    (s.forgetCar i).now = s.now ∧
    (s.forgetCar i).odo = s.odo ∧
    (s.forgetCar i).route = s.route ∧
    (s.forgetCar i).gateOpen = s.gateOpen ∧
    (s.forgetCar i).frameStart = s.frameStart ∧
    (s.forgetCar i).cars = s.cars ∧
    (s.forgetCar i).mon = s.mon ∧
    (s.forgetCar i).unit = s.unit ∧
    (s.forgetCar i).ctl = s.ctl ∧
    (s.forgetCar i).pending = s.pending ∧
    (s.forgetCar i).link.pollStart = s.link.pollStart ∧
    (s.forgetCar i).link.lineIdleFrom = s.link.lineIdleFrom ∧
    (s.forgetCar i).link.cycle = s.link.cycle ∧
    (s.forgetCar i).link.cyclePending = s.link.cyclePending ∧
    (s.forgetCar i).link.overruns = s.link.overruns := by
  simp [forgetCar]

@[simp] theorem State.consult_frame (s : State) (i : CarId) (p : Nat) :
    (s.consult i p).now = s.now ∧
    (s.consult i p).odo = s.odo ∧
    (s.consult i p).gateOpen = s.gateOpen ∧
    (s.consult i p).frameStart = s.frameStart ∧
    (s.consult i p).link = s.link ∧
    (s.consult i p).mon = s.mon ∧
    (s.consult i p).unit.settings = s.unit.settings ∧
    (s.consult i p).unit.stagedLaw = s.unit.stagedLaw ∧
    (s.consult i p).unit.stagedGeneration = s.unit.stagedGeneration ∧
    (s.consult i p).unit.trainSet = s.unit.trainSet ∧
    (s.consult i p).unit.resetCause = s.unit.resetCause ∧
    (s.consult i p).ctl.rxBuffer = s.ctl.rxBuffer ∧
    (s.consult i p).ctl.rxLast = s.ctl.rxLast ∧
    (s.consult i p).ctl.fifo = s.ctl.fifo ∧
    (s.consult i p).ctl.replies = s.ctl.replies ∧
    (s.consult i p).ctl.hold = s.ctl.hold ∧
    (s.consult i p).ctl.crcErrors = s.ctl.crcErrors ∧
    (s.consult i p).ctl.dropped = s.ctl.dropped ∧
    (s.consult i p).pending = s.pending ∧
    (s.consult i p).route.headStart = s.route.headStart ∧
    (s.consult i p).route.endChainage = s.route.endChainage ∧
    (s.consult i p).route.ring = s.route.ring ∧
    (s.consult i p).route.anchored = s.route.anchored ∧
    (s.consult i p).route.commit = s.route.commit ∧
    (s.consult i p).route.lastLead = s.route.lastLead ∧
    (s.consult i p).route.lowLatch = s.route.lowLatch ∧
    (s.consult i p).route.exhaustedLatch = s.route.exhaustedLatch ∧
    (s.consult i p).sup.persistence = s.sup.persistence ∧
    (s.consult i p).sup.suspended = s.sup.suspended := by
  dsimp only [consult]; (repeat' split) <;> simp

@[simp] theorem State.confirmMismatch_frame (s : State) (i : CarId) (p : Nat) (r q : Int) :
    (s.confirmMismatch i p r q).now = s.now ∧
    (s.confirmMismatch i p r q).odo = s.odo ∧
    (s.confirmMismatch i p r q).gateOpen = s.gateOpen ∧
    (s.confirmMismatch i p r q).frameStart = s.frameStart ∧
    (s.confirmMismatch i p r q).link = s.link ∧
    (s.confirmMismatch i p r q).mon = s.mon ∧
    (s.confirmMismatch i p r q).unit.settings = s.unit.settings ∧
    (s.confirmMismatch i p r q).unit.stagedLaw = s.unit.stagedLaw ∧
    (s.confirmMismatch i p r q).unit.stagedGeneration = s.unit.stagedGeneration ∧
    (s.confirmMismatch i p r q).unit.trainSet = s.unit.trainSet ∧
    (s.confirmMismatch i p r q).unit.resetCause = s.unit.resetCause ∧
    (s.confirmMismatch i p r q).ctl.rxBuffer = s.ctl.rxBuffer ∧
    (s.confirmMismatch i p r q).ctl.rxLast = s.ctl.rxLast ∧
    (s.confirmMismatch i p r q).ctl.fifo = s.ctl.fifo ∧
    (s.confirmMismatch i p r q).ctl.replies = s.ctl.replies ∧
    (s.confirmMismatch i p r q).ctl.hold = s.ctl.hold ∧
    (s.confirmMismatch i p r q).ctl.crcErrors = s.ctl.crcErrors ∧
    (s.confirmMismatch i p r q).ctl.dropped = s.ctl.dropped ∧
    (s.confirmMismatch i p r q).pending = s.pending ∧
    (s.confirmMismatch i p r q).route.headStart = s.route.headStart ∧
    (s.confirmMismatch i p r q).route.endChainage = s.route.endChainage ∧
    (s.confirmMismatch i p r q).route.ring = s.route.ring ∧
    (s.confirmMismatch i p r q).route.anchored = s.route.anchored ∧
    (s.confirmMismatch i p r q).route.commit = s.route.commit ∧
    (s.confirmMismatch i p r q).route.lastLead = s.route.lastLead ∧
    (s.confirmMismatch i p r q).route.lowLatch = s.route.lowLatch ∧
    (s.confirmMismatch i p r q).route.exhaustedLatch = s.route.exhaustedLatch := by
  dsimp only [confirmMismatch]; simp

@[simp] theorem State.testResidual_frame (s : State) (i : CarId) (p : Nat) (r q : Int) :
    (s.testResidual i p r q).now = s.now ∧
    (s.testResidual i p r q).odo = s.odo ∧
    (s.testResidual i p r q).gateOpen = s.gateOpen ∧
    (s.testResidual i p r q).frameStart = s.frameStart ∧
    (s.testResidual i p r q).link = s.link ∧
    (s.testResidual i p r q).mon = s.mon ∧
    (s.testResidual i p r q).unit.settings = s.unit.settings ∧
    (s.testResidual i p r q).unit.stagedLaw = s.unit.stagedLaw ∧
    (s.testResidual i p r q).unit.stagedGeneration = s.unit.stagedGeneration ∧
    (s.testResidual i p r q).unit.trainSet = s.unit.trainSet ∧
    (s.testResidual i p r q).unit.resetCause = s.unit.resetCause ∧
    (s.testResidual i p r q).ctl.rxBuffer = s.ctl.rxBuffer ∧
    (s.testResidual i p r q).ctl.rxLast = s.ctl.rxLast ∧
    (s.testResidual i p r q).ctl.fifo = s.ctl.fifo ∧
    (s.testResidual i p r q).ctl.replies = s.ctl.replies ∧
    (s.testResidual i p r q).ctl.hold = s.ctl.hold ∧
    (s.testResidual i p r q).ctl.crcErrors = s.ctl.crcErrors ∧
    (s.testResidual i p r q).ctl.dropped = s.ctl.dropped ∧
    (s.testResidual i p r q).pending = s.pending ∧
    (s.testResidual i p r q).route.headStart = s.route.headStart ∧
    (s.testResidual i p r q).route.endChainage = s.route.endChainage ∧
    (s.testResidual i p r q).route.ring = s.route.ring ∧
    (s.testResidual i p r q).route.anchored = s.route.anchored ∧
    (s.testResidual i p r q).route.commit = s.route.commit ∧
    (s.testResidual i p r q).route.lastLead = s.route.lastLead ∧
    (s.testResidual i p r q).route.lowLatch = s.route.lowLatch ∧
    (s.testResidual i p r q).route.exhaustedLatch = s.route.exhaustedLatch := by
  dsimp only [testResidual]; (repeat' split) <;> simp

@[simp] theorem State.superviseReply_frame (s : State) (i : CarId) (r : DriveReport) :
    (s.superviseReply i r).now = s.now ∧
    (s.superviseReply i r).odo = s.odo ∧
    (s.superviseReply i r).gateOpen = s.gateOpen ∧
    (s.superviseReply i r).frameStart = s.frameStart ∧
    (s.superviseReply i r).link = s.link ∧
    (s.superviseReply i r).mon = s.mon ∧
    (s.superviseReply i r).unit.settings = s.unit.settings ∧
    (s.superviseReply i r).unit.stagedLaw = s.unit.stagedLaw ∧
    (s.superviseReply i r).unit.stagedGeneration = s.unit.stagedGeneration ∧
    (s.superviseReply i r).unit.trainSet = s.unit.trainSet ∧
    (s.superviseReply i r).unit.resetCause = s.unit.resetCause ∧
    (s.superviseReply i r).ctl.rxBuffer = s.ctl.rxBuffer ∧
    (s.superviseReply i r).ctl.rxLast = s.ctl.rxLast ∧
    (s.superviseReply i r).ctl.fifo = s.ctl.fifo ∧
    (s.superviseReply i r).ctl.replies = s.ctl.replies ∧
    (s.superviseReply i r).ctl.hold = s.ctl.hold ∧
    (s.superviseReply i r).ctl.crcErrors = s.ctl.crcErrors ∧
    (s.superviseReply i r).ctl.dropped = s.ctl.dropped ∧
    (s.superviseReply i r).pending = s.pending ∧
    (s.superviseReply i r).route.headStart = s.route.headStart ∧
    (s.superviseReply i r).route.endChainage = s.route.endChainage ∧
    (s.superviseReply i r).route.ring = s.route.ring ∧
    (s.superviseReply i r).route.anchored = s.route.anchored ∧
    (s.superviseReply i r).route.commit = s.route.commit ∧
    (s.superviseReply i r).route.lastLead = s.route.lastLead ∧
    (s.superviseReply i r).route.lowLatch = s.route.lowLatch ∧
    (s.superviseReply i r).route.exhaustedLatch = s.route.exhaustedLatch := by
  dsimp only [superviseReply]; (repeat' split) <;> simp

@[simp] theorem State.startCycle_frame (s : State) :
    (s.startCycle).now = s.now ∧
    (s.startCycle).odo = s.odo ∧
    (s.startCycle).route = s.route ∧
    (s.startCycle).gateOpen = s.gateOpen ∧
    (s.startCycle).frameStart = s.frameStart ∧
    (s.startCycle).cars = s.cars ∧
    (s.startCycle).sup = s.sup ∧
    (s.startCycle).mon = s.mon ∧
    (s.startCycle).unit = s.unit ∧
    (s.startCycle).ctl = s.ctl ∧
    (s.startCycle).pending = s.pending ∧
    (s.startCycle).link.pollStart = s.link.pollStart ∧
    (s.startCycle).link.lineIdleFrom = s.link.lineIdleFrom ∧
    (s.startCycle).link.cyclePending = s.link.cyclePending ∧
    (s.startCycle).link.overruns = s.link.overruns ∧
    (s.startCycle).link.drives = s.link.drives := by
  simp [startCycle]

@[simp] theorem State.endTransaction_frame (s : State) (c : PollCycle) :
    (s.endTransaction c).now = s.now ∧
    (s.endTransaction c).odo = s.odo ∧
    (s.endTransaction c).route = s.route ∧
    (s.endTransaction c).gateOpen = s.gateOpen ∧
    (s.endTransaction c).frameStart = s.frameStart ∧
    (s.endTransaction c).cars = s.cars ∧
    (s.endTransaction c).sup = s.sup ∧
    (s.endTransaction c).mon = s.mon ∧
    (s.endTransaction c).unit = s.unit ∧
    (s.endTransaction c).ctl = s.ctl ∧
    (s.endTransaction c).pending = s.pending ∧
    (s.endTransaction c).link.pollStart = s.link.pollStart ∧
    (s.endTransaction c).link.lineIdleFrom = s.link.lineIdleFrom ∧
    (s.endTransaction c).link.overruns = s.link.overruns ∧
    (s.endTransaction c).link.drives = s.link.drives := by
  dsimp only [endTransaction]; (repeat' split) <;> simp

@[simp] theorem State.leaveToNextCycle_frame (s : State) (joins : CarId → Bool) :
    (s.leaveToNextCycle joins).now = s.now ∧
    (s.leaveToNextCycle joins).odo = s.odo ∧
    (s.leaveToNextCycle joins).route = s.route ∧
    (s.leaveToNextCycle joins).gateOpen = s.gateOpen ∧
    (s.leaveToNextCycle joins).frameStart = s.frameStart ∧
    (s.leaveToNextCycle joins).cars = s.cars ∧
    (s.leaveToNextCycle joins).sup = s.sup ∧
    (s.leaveToNextCycle joins).mon = s.mon ∧
    (s.leaveToNextCycle joins).unit = s.unit ∧
    (s.leaveToNextCycle joins).ctl = s.ctl ∧
    (s.leaveToNextCycle joins).pending = s.pending ∧
    (s.leaveToNextCycle joins).link.pollStart = s.link.pollStart ∧
    (s.leaveToNextCycle joins).link.lineIdleFrom = s.link.lineIdleFrom ∧
    (s.leaveToNextCycle joins).link.overruns = s.link.overruns ∧
    (s.leaveToNextCycle joins).link.drives = s.link.drives := by
  dsimp only [leaveToNextCycle]; (repeat' split) <;> simp

@[simp] theorem State.postIsolated_frame (s : State) (i : CarId) (a b : Bool) :
    (s.postIsolated i a b).now = s.now ∧
    (s.postIsolated i a b).odo = s.odo ∧
    (s.postIsolated i a b).route = s.route ∧
    (s.postIsolated i a b).gateOpen = s.gateOpen ∧
    (s.postIsolated i a b).frameStart = s.frameStart ∧
    (s.postIsolated i a b).cars = s.cars ∧
    (s.postIsolated i a b).link = s.link ∧
    (s.postIsolated i a b).sup = s.sup ∧
    (s.postIsolated i a b).mon = s.mon ∧
    (s.postIsolated i a b).unit = s.unit ∧
    (s.postIsolated i a b).ctl.rxBuffer = s.ctl.rxBuffer ∧
    (s.postIsolated i a b).ctl.rxLast = s.ctl.rxLast ∧
    (s.postIsolated i a b).ctl.fifo = s.ctl.fifo ∧
    (s.postIsolated i a b).ctl.replies = s.ctl.replies ∧
    (s.postIsolated i a b).ctl.hold = s.ctl.hold ∧
    (s.postIsolated i a b).ctl.crcErrors = s.ctl.crcErrors ∧
    (s.postIsolated i a b).ctl.dropped = s.ctl.dropped ∧
    (s.postIsolated i a b).pending = s.pending := by
  simp [postIsolated]

@[simp] theorem State.isolate_frame (s : State) (i : CarId) (b : Bool) :
    (s.isolate i b).now = s.now ∧
    (s.isolate i b).odo = s.odo ∧
    (s.isolate i b).route = s.route ∧
    (s.isolate i b).gateOpen = s.gateOpen ∧
    (s.isolate i b).frameStart = s.frameStart ∧
    (s.isolate i b).mon = s.mon ∧
    (s.isolate i b).unit.settings = s.unit.settings ∧
    (s.isolate i b).unit.stagedLaw = s.unit.stagedLaw ∧
    (s.isolate i b).unit.stagedGeneration = s.unit.stagedGeneration ∧
    (s.isolate i b).unit.trainSet = s.unit.trainSet ∧
    (s.isolate i b).unit.resetCause = s.unit.resetCause ∧
    (s.isolate i b).ctl.rxBuffer = s.ctl.rxBuffer ∧
    (s.isolate i b).ctl.rxLast = s.ctl.rxLast ∧
    (s.isolate i b).ctl.fifo = s.ctl.fifo ∧
    (s.isolate i b).ctl.replies = s.ctl.replies ∧
    (s.isolate i b).ctl.hold = s.ctl.hold ∧
    (s.isolate i b).ctl.crcErrors = s.ctl.crcErrors ∧
    (s.isolate i b).ctl.dropped = s.ctl.dropped ∧
    (s.isolate i b).pending = s.pending ∧
    (s.isolate i b).link.pollStart = s.link.pollStart ∧
    (s.isolate i b).link.lineIdleFrom = s.link.lineIdleFrom ∧
    (s.isolate i b).link.cycle = s.link.cycle ∧
    (s.isolate i b).link.cyclePending = s.link.cyclePending ∧
    (s.isolate i b).link.overruns = s.link.overruns := by
  dsimp only [isolate]; simp

@[simp] theorem State.failReply_frame (s : State) (i : CarId) (b : Bool) :
    (s.failReply i b).now = s.now ∧
    (s.failReply i b).odo = s.odo ∧
    (s.failReply i b).route = s.route ∧
    (s.failReply i b).gateOpen = s.gateOpen ∧
    (s.failReply i b).frameStart = s.frameStart ∧
    (s.failReply i b).mon = s.mon ∧
    (s.failReply i b).unit.settings = s.unit.settings ∧
    (s.failReply i b).unit.stagedLaw = s.unit.stagedLaw ∧
    (s.failReply i b).unit.stagedGeneration = s.unit.stagedGeneration ∧
    (s.failReply i b).unit.trainSet = s.unit.trainSet ∧
    (s.failReply i b).unit.resetCause = s.unit.resetCause ∧
    (s.failReply i b).ctl.rxBuffer = s.ctl.rxBuffer ∧
    (s.failReply i b).ctl.rxLast = s.ctl.rxLast ∧
    (s.failReply i b).ctl.fifo = s.ctl.fifo ∧
    (s.failReply i b).ctl.replies = s.ctl.replies ∧
    (s.failReply i b).ctl.hold = s.ctl.hold ∧
    (s.failReply i b).ctl.crcErrors = s.ctl.crcErrors ∧
    (s.failReply i b).ctl.dropped = s.ctl.dropped ∧
    (s.failReply i b).pending = s.pending ∧
    (s.failReply i b).link.pollStart = s.link.pollStart ∧
    (s.failReply i b).link.lineIdleFrom = s.link.lineIdleFrom ∧
    (s.failReply i b).link.cycle = s.link.cycle ∧
    (s.failReply i b).link.cyclePending = s.link.cyclePending ∧
    (s.failReply i b).link.overruns = s.link.overruns := by
  dsimp only [failReply]; (repeat' split) <;> simp

@[simp] theorem State.failProbe_frame (s : State) (i : CarId) (b : Bool) :
    (s.failProbe i b).now = s.now ∧
    (s.failProbe i b).odo = s.odo ∧
    (s.failProbe i b).route = s.route ∧
    (s.failProbe i b).gateOpen = s.gateOpen ∧
    (s.failProbe i b).frameStart = s.frameStart ∧
    (s.failProbe i b).sup = s.sup ∧
    (s.failProbe i b).mon = s.mon ∧
    (s.failProbe i b).unit.settings = s.unit.settings ∧
    (s.failProbe i b).unit.stagedLaw = s.unit.stagedLaw ∧
    (s.failProbe i b).unit.stagedGeneration = s.unit.stagedGeneration ∧
    (s.failProbe i b).unit.trainSet = s.unit.trainSet ∧
    (s.failProbe i b).unit.resetCause = s.unit.resetCause ∧
    (s.failProbe i b).ctl.rxBuffer = s.ctl.rxBuffer ∧
    (s.failProbe i b).ctl.rxLast = s.ctl.rxLast ∧
    (s.failProbe i b).ctl.fifo = s.ctl.fifo ∧
    (s.failProbe i b).ctl.replies = s.ctl.replies ∧
    (s.failProbe i b).ctl.hold = s.ctl.hold ∧
    (s.failProbe i b).ctl.crcErrors = s.ctl.crcErrors ∧
    (s.failProbe i b).ctl.dropped = s.ctl.dropped ∧
    (s.failProbe i b).pending = s.pending ∧
    (s.failProbe i b).link.pollStart = s.link.pollStart ∧
    (s.failProbe i b).link.lineIdleFrom = s.link.lineIdleFrom ∧
    (s.failProbe i b).link.cycle = s.link.cycle ∧
    (s.failProbe i b).link.cyclePending = s.link.cyclePending ∧
    (s.failProbe i b).link.overruns = s.link.overruns := by
  dsimp only [failProbe]; simp

@[simp] theorem State.healReply_frame (s : State) (i : CarId) :
    (s.healReply i).now = s.now ∧
    (s.healReply i).odo = s.odo ∧
    (s.healReply i).route = s.route ∧
    (s.healReply i).gateOpen = s.gateOpen ∧
    (s.healReply i).frameStart = s.frameStart ∧
    (s.healReply i).sup = s.sup ∧
    (s.healReply i).mon = s.mon ∧
    (s.healReply i).unit = s.unit ∧
    (s.healReply i).ctl = s.ctl ∧
    (s.healReply i).pending = s.pending ∧
    (s.healReply i).link.pollStart = s.link.pollStart ∧
    (s.healReply i).link.lineIdleFrom = s.link.lineIdleFrom ∧
    (s.healReply i).link.cycle = s.link.cycle ∧
    (s.healReply i).link.cyclePending = s.link.cyclePending ∧
    (s.healReply i).link.overruns = s.link.overruns := by
  dsimp only [healReply]; simp

@[simp] theorem State.followFault_frame (s : State) (i : CarId) (st : Byte) (c p : Nat) :
    (s.followFault i st c p).now = s.now ∧
    (s.followFault i st c p).odo = s.odo ∧
    (s.followFault i st c p).route = s.route ∧
    (s.followFault i st c p).gateOpen = s.gateOpen ∧
    (s.followFault i st c p).frameStart = s.frameStart ∧
    (s.followFault i st c p).link = s.link ∧
    (s.followFault i st c p).sup = s.sup ∧
    (s.followFault i st c p).mon = s.mon ∧
    (s.followFault i st c p).unit.settings = s.unit.settings ∧
    (s.followFault i st c p).unit.stagedLaw = s.unit.stagedLaw ∧
    (s.followFault i st c p).unit.stagedGeneration = s.unit.stagedGeneration ∧
    (s.followFault i st c p).unit.trainSet = s.unit.trainSet ∧
    (s.followFault i st c p).unit.resetCause = s.unit.resetCause ∧
    (s.followFault i st c p).ctl.rxBuffer = s.ctl.rxBuffer ∧
    (s.followFault i st c p).ctl.rxLast = s.ctl.rxLast ∧
    (s.followFault i st c p).ctl.fifo = s.ctl.fifo ∧
    (s.followFault i st c p).ctl.replies = s.ctl.replies ∧
    (s.followFault i st c p).ctl.hold = s.ctl.hold ∧
    (s.followFault i st c p).ctl.crcErrors = s.ctl.crcErrors ∧
    (s.followFault i st c p).ctl.dropped = s.ctl.dropped ∧
    (s.followFault i st c p).pending = s.pending := by
  dsimp only [followFault]; (repeat' split) <;> simp

@[simp] theorem State.countProbe_frame (s : State) (i : CarId) (st : Byte) (t : Int) :
    (s.countProbe i st t).now = s.now ∧
    (s.countProbe i st t).odo = s.odo ∧
    (s.countProbe i st t).route = s.route ∧
    (s.countProbe i st t).gateOpen = s.gateOpen ∧
    (s.countProbe i st t).frameStart = s.frameStart ∧
    (s.countProbe i st t).sup = s.sup ∧
    (s.countProbe i st t).mon = s.mon ∧
    (s.countProbe i st t).unit.settings = s.unit.settings ∧
    (s.countProbe i st t).unit.stagedLaw = s.unit.stagedLaw ∧
    (s.countProbe i st t).unit.stagedGeneration = s.unit.stagedGeneration ∧
    (s.countProbe i st t).unit.trainSet = s.unit.trainSet ∧
    (s.countProbe i st t).unit.resetCause = s.unit.resetCause ∧
    (s.countProbe i st t).ctl.rxBuffer = s.ctl.rxBuffer ∧
    (s.countProbe i st t).ctl.rxLast = s.ctl.rxLast ∧
    (s.countProbe i st t).ctl.fifo = s.ctl.fifo ∧
    (s.countProbe i st t).ctl.replies = s.ctl.replies ∧
    (s.countProbe i st t).ctl.hold = s.ctl.hold ∧
    (s.countProbe i st t).ctl.crcErrors = s.ctl.crcErrors ∧
    (s.countProbe i st t).ctl.dropped = s.ctl.dropped ∧
    (s.countProbe i st t).pending = s.pending ∧
    (s.countProbe i st t).link.pollStart = s.link.pollStart ∧
    (s.countProbe i st t).link.lineIdleFrom = s.link.lineIdleFrom ∧
    (s.countProbe i st t).link.cycle = s.link.cycle ∧
    (s.countProbe i st t).link.cyclePending = s.link.cyclePending ∧
    (s.countProbe i st t).link.overruns = s.link.overruns := by
  dsimp only [countProbe]; (repeat' split) <;> simp

@[simp] theorem State.applyGood_frame (s : State) (i : CarId) (st : Byte) (r : DriveReport) :
    (s.applyGood i st r).now = s.now ∧
    (s.applyGood i st r).odo = s.odo ∧
    (s.applyGood i st r).gateOpen = s.gateOpen ∧
    (s.applyGood i st r).frameStart = s.frameStart ∧
    (s.applyGood i st r).mon = s.mon ∧
    (s.applyGood i st r).unit.settings = s.unit.settings ∧
    (s.applyGood i st r).unit.stagedLaw = s.unit.stagedLaw ∧
    (s.applyGood i st r).unit.stagedGeneration = s.unit.stagedGeneration ∧
    (s.applyGood i st r).unit.trainSet = s.unit.trainSet ∧
    (s.applyGood i st r).unit.resetCause = s.unit.resetCause ∧
    (s.applyGood i st r).ctl.rxBuffer = s.ctl.rxBuffer ∧
    (s.applyGood i st r).ctl.rxLast = s.ctl.rxLast ∧
    (s.applyGood i st r).ctl.fifo = s.ctl.fifo ∧
    (s.applyGood i st r).ctl.replies = s.ctl.replies ∧
    (s.applyGood i st r).ctl.hold = s.ctl.hold ∧
    (s.applyGood i st r).ctl.crcErrors = s.ctl.crcErrors ∧
    (s.applyGood i st r).ctl.dropped = s.ctl.dropped ∧
    (s.applyGood i st r).pending = s.pending ∧
    (s.applyGood i st r).link.pollStart = s.link.pollStart ∧
    (s.applyGood i st r).link.lineIdleFrom = s.link.lineIdleFrom ∧
    (s.applyGood i st r).link.cycle = s.link.cycle ∧
    (s.applyGood i st r).link.cyclePending = s.link.cyclePending ∧
    (s.applyGood i st r).link.overruns = s.link.overruns ∧
    (s.applyGood i st r).route.headStart = s.route.headStart ∧
    (s.applyGood i st r).route.endChainage = s.route.endChainage ∧
    (s.applyGood i st r).route.ring = s.route.ring ∧
    (s.applyGood i st r).route.anchored = s.route.anchored ∧
    (s.applyGood i st r).route.commit = s.route.commit ∧
    (s.applyGood i st r).route.lastLead = s.route.lastLead ∧
    (s.applyGood i st r).route.lowLatch = s.route.lowLatch ∧
    (s.applyGood i st r).route.exhaustedLatch = s.route.exhaustedLatch := by
  dsimp only [applyGood]; (repeat' split) <;> simp

@[simp] theorem State.applyOutcome_frame (s : State) (i : CarId) (o : TransactionEnd) :
    (s.applyOutcome i o).now = s.now ∧
    (s.applyOutcome i o).odo = s.odo ∧
    (s.applyOutcome i o).gateOpen = s.gateOpen ∧
    (s.applyOutcome i o).frameStart = s.frameStart ∧
    (s.applyOutcome i o).mon = s.mon ∧
    (s.applyOutcome i o).unit.settings = s.unit.settings ∧
    (s.applyOutcome i o).unit.stagedLaw = s.unit.stagedLaw ∧
    (s.applyOutcome i o).unit.stagedGeneration = s.unit.stagedGeneration ∧
    (s.applyOutcome i o).unit.trainSet = s.unit.trainSet ∧
    (s.applyOutcome i o).unit.resetCause = s.unit.resetCause ∧
    (s.applyOutcome i o).ctl.rxBuffer = s.ctl.rxBuffer ∧
    (s.applyOutcome i o).ctl.rxLast = s.ctl.rxLast ∧
    (s.applyOutcome i o).ctl.fifo = s.ctl.fifo ∧
    (s.applyOutcome i o).ctl.replies = s.ctl.replies ∧
    (s.applyOutcome i o).ctl.hold = s.ctl.hold ∧
    (s.applyOutcome i o).ctl.crcErrors = s.ctl.crcErrors ∧
    (s.applyOutcome i o).ctl.dropped = s.ctl.dropped ∧
    (s.applyOutcome i o).pending = s.pending ∧
    (s.applyOutcome i o).link.pollStart = s.link.pollStart ∧
    (s.applyOutcome i o).link.lineIdleFrom = s.link.lineIdleFrom ∧
    (s.applyOutcome i o).link.cycle = s.link.cycle ∧
    (s.applyOutcome i o).link.cyclePending = s.link.cyclePending ∧
    (s.applyOutcome i o).link.overruns = s.link.overruns ∧
    (s.applyOutcome i o).route.headStart = s.route.headStart ∧
    (s.applyOutcome i o).route.endChainage = s.route.endChainage ∧
    (s.applyOutcome i o).route.ring = s.route.ring ∧
    (s.applyOutcome i o).route.anchored = s.route.anchored ∧
    (s.applyOutcome i o).route.commit = s.route.commit ∧
    (s.applyOutcome i o).route.lastLead = s.route.lastLead ∧
    (s.applyOutcome i o).route.lowLatch = s.route.lowLatch ∧
    (s.applyOutcome i o).route.exhaustedLatch = s.route.exhaustedLatch := by
  dsimp only [applyOutcome]; (repeat' split) <;> simp

@[simp] theorem State.finish_frame (s : State) (c : PollCycle) (o : TransactionEnd) :
    (s.finish c o).now = s.now ∧
    (s.finish c o).odo = s.odo ∧
    (s.finish c o).gateOpen = s.gateOpen ∧
    (s.finish c o).frameStart = s.frameStart ∧
    (s.finish c o).mon = s.mon ∧
    (s.finish c o).unit.settings = s.unit.settings ∧
    (s.finish c o).unit.stagedLaw = s.unit.stagedLaw ∧
    (s.finish c o).unit.stagedGeneration = s.unit.stagedGeneration ∧
    (s.finish c o).unit.trainSet = s.unit.trainSet ∧
    (s.finish c o).unit.resetCause = s.unit.resetCause ∧
    (s.finish c o).ctl.rxBuffer = s.ctl.rxBuffer ∧
    (s.finish c o).ctl.rxLast = s.ctl.rxLast ∧
    (s.finish c o).ctl.fifo = s.ctl.fifo ∧
    (s.finish c o).ctl.replies = s.ctl.replies ∧
    (s.finish c o).ctl.hold = s.ctl.hold ∧
    (s.finish c o).ctl.crcErrors = s.ctl.crcErrors ∧
    (s.finish c o).ctl.dropped = s.ctl.dropped ∧
    (s.finish c o).pending = s.pending ∧
    (s.finish c o).link.pollStart = s.link.pollStart ∧
    (s.finish c o).link.lineIdleFrom = s.link.lineIdleFrom ∧
    (s.finish c o).link.overruns = s.link.overruns ∧
    (s.finish c o).route.headStart = s.route.headStart ∧
    (s.finish c o).route.endChainage = s.route.endChainage ∧
    (s.finish c o).route.ring = s.route.ring ∧
    (s.finish c o).route.anchored = s.route.anchored ∧
    (s.finish c o).route.commit = s.route.commit ∧
    (s.finish c o).route.lastLead = s.route.lastLead ∧
    (s.finish c o).route.lowLatch = s.route.lowLatch ∧
    (s.finish c o).route.exhaustedLatch = s.route.exhaustedLatch := by
  dsimp only [finish]; simp

@[simp] theorem State.takeByte_frame (s : State) (c : PollCycle) (o : Nat) (q : Byte) (l : List RxByte) :
    (s.takeByte c o q l).odo = s.odo ∧
    (s.takeByte c o q l).gateOpen = s.gateOpen ∧
    (s.takeByte c o q l).frameStart = s.frameStart ∧
    (s.takeByte c o q l).mon = s.mon ∧
    (s.takeByte c o q l).unit.settings = s.unit.settings ∧
    (s.takeByte c o q l).unit.stagedLaw = s.unit.stagedLaw ∧
    (s.takeByte c o q l).unit.stagedGeneration = s.unit.stagedGeneration ∧
    (s.takeByte c o q l).unit.trainSet = s.unit.trainSet ∧
    (s.takeByte c o q l).unit.resetCause = s.unit.resetCause ∧
    (s.takeByte c o q l).ctl.rxBuffer = s.ctl.rxBuffer ∧
    (s.takeByte c o q l).ctl.rxLast = s.ctl.rxLast ∧
    (s.takeByte c o q l).ctl.fifo = s.ctl.fifo ∧
    (s.takeByte c o q l).ctl.replies = s.ctl.replies ∧
    (s.takeByte c o q l).ctl.hold = s.ctl.hold ∧
    (s.takeByte c o q l).ctl.crcErrors = s.ctl.crcErrors ∧
    (s.takeByte c o q l).ctl.dropped = s.ctl.dropped ∧
    (s.takeByte c o q l).pending = s.pending ∧
    (s.takeByte c o q l).link.pollStart = s.link.pollStart ∧
    (s.takeByte c o q l).link.overruns = s.link.overruns ∧
    (s.takeByte c o q l).route.headStart = s.route.headStart ∧
    (s.takeByte c o q l).route.endChainage = s.route.endChainage ∧
    (s.takeByte c o q l).route.ring = s.route.ring ∧
    (s.takeByte c o q l).route.anchored = s.route.anchored ∧
    (s.takeByte c o q l).route.commit = s.route.commit ∧
    (s.takeByte c o q l).route.lastLead = s.route.lastLead ∧
    (s.takeByte c o q l).route.lowLatch = s.route.lowLatch ∧
    (s.takeByte c o q l).route.exhaustedLatch = s.route.exhaustedLatch := by
  dsimp only [takeByte]; split <;> simp

theorem State.takeByte_times (s : State) (c : PollCycle) (o : Nat) (q : Byte) (l : List RxByte) :
    (s.takeByte c o q l).now = s.now ∧ (s.takeByte c o q l).link.lineIdleFrom = s.link.lineIdleFrom := by
  dsimp only [takeByte]; split <;> simp

@[simp] theorem State.hearByte_frame (s : State) (b : RxByte) :
    (s.hearByte b).odo = s.odo ∧
    (s.hearByte b).gateOpen = s.gateOpen ∧
    (s.hearByte b).frameStart = s.frameStart ∧
    (s.hearByte b).mon = s.mon ∧
    (s.hearByte b).unit.settings = s.unit.settings ∧
    (s.hearByte b).unit.stagedLaw = s.unit.stagedLaw ∧
    (s.hearByte b).unit.stagedGeneration = s.unit.stagedGeneration ∧
    (s.hearByte b).unit.trainSet = s.unit.trainSet ∧
    (s.hearByte b).unit.resetCause = s.unit.resetCause ∧
    (s.hearByte b).ctl.rxBuffer = s.ctl.rxBuffer ∧
    (s.hearByte b).ctl.rxLast = s.ctl.rxLast ∧
    (s.hearByte b).ctl.fifo = s.ctl.fifo ∧
    (s.hearByte b).ctl.replies = s.ctl.replies ∧
    (s.hearByte b).ctl.hold = s.ctl.hold ∧
    (s.hearByte b).ctl.crcErrors = s.ctl.crcErrors ∧
    (s.hearByte b).ctl.dropped = s.ctl.dropped ∧
    (s.hearByte b).pending = s.pending ∧
    (s.hearByte b).link.pollStart = s.link.pollStart ∧
    (s.hearByte b).link.overruns = s.link.overruns ∧
    (s.hearByte b).route.headStart = s.route.headStart ∧
    (s.hearByte b).route.endChainage = s.route.endChainage ∧
    (s.hearByte b).route.ring = s.route.ring ∧
    (s.hearByte b).route.anchored = s.route.anchored ∧
    (s.hearByte b).route.commit = s.route.commit ∧
    (s.hearByte b).route.lastLead = s.route.lastLead ∧
    (s.hearByte b).route.lowLatch = s.route.lowLatch ∧
    (s.hearByte b).route.exhaustedLatch = s.route.exhaustedLatch := by
  dsimp only [hearByte]; (repeat' split) <;> simp

theorem State.hearByte_now (s : State) (b : RxByte) : (s.hearByte b).now = s.now := by
  dsimp only [hearByte]; (repeat' split) <;> simp [takeByte_times]

@[simp] theorem State.endIdle_frame (s : State) (n : Nat) :
    (s.endIdle n).odo = s.odo ∧
    (s.endIdle n).gateOpen = s.gateOpen ∧
    (s.endIdle n).frameStart = s.frameStart ∧
    (s.endIdle n).mon = s.mon ∧
    (s.endIdle n).unit.settings = s.unit.settings ∧
    (s.endIdle n).unit.stagedLaw = s.unit.stagedLaw ∧
    (s.endIdle n).unit.stagedGeneration = s.unit.stagedGeneration ∧
    (s.endIdle n).unit.trainSet = s.unit.trainSet ∧
    (s.endIdle n).unit.resetCause = s.unit.resetCause ∧
    (s.endIdle n).ctl.rxBuffer = s.ctl.rxBuffer ∧
    (s.endIdle n).ctl.rxLast = s.ctl.rxLast ∧
    (s.endIdle n).ctl.fifo = s.ctl.fifo ∧
    (s.endIdle n).ctl.replies = s.ctl.replies ∧
    (s.endIdle n).ctl.hold = s.ctl.hold ∧
    (s.endIdle n).ctl.crcErrors = s.ctl.crcErrors ∧
    (s.endIdle n).ctl.dropped = s.ctl.dropped ∧
    (s.endIdle n).pending = s.pending ∧
    (s.endIdle n).link.pollStart = s.link.pollStart ∧
    (s.endIdle n).link.overruns = s.link.overruns ∧
    (s.endIdle n).route.headStart = s.route.headStart ∧
    (s.endIdle n).route.endChainage = s.route.endChainage ∧
    (s.endIdle n).route.ring = s.route.ring ∧
    (s.endIdle n).route.anchored = s.route.anchored ∧
    (s.endIdle n).route.commit = s.route.commit ∧
    (s.endIdle n).route.lastLead = s.route.lastLead ∧
    (s.endIdle n).route.lowLatch = s.route.lowLatch ∧
    (s.endIdle n).route.exhaustedLatch = s.route.exhaustedLatch := by
  dsimp only [endIdle]; (repeat' split) <;> simp

/-- The end of a reception by an idle line comes by the limit, and no time runs back. -/
theorem State.endIdle_now (s : State) (n : Nat) : s.now ≤ (s.endIdle n).now ∧ (s.endIdle n).now ≤ max s.now n := by
  dsimp only [endIdle]; (repeat' split) <;> simp <;> omega

@[simp] theorem State.byteAfter_frame (s : State) (n : Nat) (b : RxByte) :
    (s.byteAfter n b).odo = s.odo ∧
    (s.byteAfter n b).gateOpen = s.gateOpen ∧
    (s.byteAfter n b).frameStart = s.frameStart ∧
    (s.byteAfter n b).mon = s.mon ∧
    (s.byteAfter n b).unit.settings = s.unit.settings ∧
    (s.byteAfter n b).unit.stagedLaw = s.unit.stagedLaw ∧
    (s.byteAfter n b).unit.stagedGeneration = s.unit.stagedGeneration ∧
    (s.byteAfter n b).unit.trainSet = s.unit.trainSet ∧
    (s.byteAfter n b).unit.resetCause = s.unit.resetCause ∧
    (s.byteAfter n b).ctl.rxBuffer = s.ctl.rxBuffer ∧
    (s.byteAfter n b).ctl.rxLast = s.ctl.rxLast ∧
    (s.byteAfter n b).ctl.fifo = s.ctl.fifo ∧
    (s.byteAfter n b).ctl.replies = s.ctl.replies ∧
    (s.byteAfter n b).ctl.hold = s.ctl.hold ∧
    (s.byteAfter n b).ctl.crcErrors = s.ctl.crcErrors ∧
    (s.byteAfter n b).ctl.dropped = s.ctl.dropped ∧
    (s.byteAfter n b).pending = s.pending ∧
    (s.byteAfter n b).link.pollStart = s.link.pollStart ∧
    (s.byteAfter n b).link.overruns = s.link.overruns ∧
    (s.byteAfter n b).route.headStart = s.route.headStart ∧
    (s.byteAfter n b).route.endChainage = s.route.endChainage ∧
    (s.byteAfter n b).route.ring = s.route.ring ∧
    (s.byteAfter n b).route.anchored = s.route.anchored ∧
    (s.byteAfter n b).route.commit = s.route.commit ∧
    (s.byteAfter n b).route.lastLead = s.route.lastLead ∧
    (s.byteAfter n b).route.lowLatch = s.route.lowLatch ∧
    (s.byteAfter n b).route.exhaustedLatch = s.route.exhaustedLatch := by
  simp [byteAfter]

/-- A byte is received at its own time. -/
theorem State.byteAfter_now (s : State) (n : Nat) (b : RxByte) : (s.byteAfter n b).now = s.now + n := by
  have h := s.endIdle_now (s.now + n - actuatorByteTime)
  simp only [byteAfter, hearByte_now, runTo_now]
  omega

@[simp] theorem State.hearRun_frame (s : State) (l : List RxByte) :
    (s.hearRun l).odo = s.odo ∧
    (s.hearRun l).gateOpen = s.gateOpen ∧
    (s.hearRun l).frameStart = s.frameStart ∧
    (s.hearRun l).mon = s.mon ∧
    (s.hearRun l).unit.settings = s.unit.settings ∧
    (s.hearRun l).unit.stagedLaw = s.unit.stagedLaw ∧
    (s.hearRun l).unit.stagedGeneration = s.unit.stagedGeneration ∧
    (s.hearRun l).unit.trainSet = s.unit.trainSet ∧
    (s.hearRun l).unit.resetCause = s.unit.resetCause ∧
    (s.hearRun l).ctl.rxBuffer = s.ctl.rxBuffer ∧
    (s.hearRun l).ctl.rxLast = s.ctl.rxLast ∧
    (s.hearRun l).ctl.fifo = s.ctl.fifo ∧
    (s.hearRun l).ctl.replies = s.ctl.replies ∧
    (s.hearRun l).ctl.hold = s.ctl.hold ∧
    (s.hearRun l).ctl.crcErrors = s.ctl.crcErrors ∧
    (s.hearRun l).ctl.dropped = s.ctl.dropped ∧
    (s.hearRun l).pending = s.pending ∧
    (s.hearRun l).link.pollStart = s.link.pollStart ∧
    (s.hearRun l).link.overruns = s.link.overruns ∧
    (s.hearRun l).route.headStart = s.route.headStart ∧
    (s.hearRun l).route.endChainage = s.route.endChainage ∧
    (s.hearRun l).route.ring = s.route.ring ∧
    (s.hearRun l).route.anchored = s.route.anchored ∧
    (s.hearRun l).route.commit = s.route.commit ∧
    (s.hearRun l).route.lastLead = s.route.lastLead ∧
    (s.hearRun l).route.lowLatch = s.route.lowLatch ∧
    (s.hearRun l).route.exhaustedLatch = s.route.exhaustedLatch := by
  induction l generalizing s with
  | nil => simp [hearRun]
  | cons b l ih => simp [hearRun, ih]

theorem State.hearRun_now (s : State) (l : List RxByte) :
    (s.hearRun l).now = s.now + (l.map (fun b => b.pause + 10)).sum := by
  induction l generalizing s with
  | nil => simp [hearRun]
  | cons b l ih => simp [hearRun, ih, byteAfter_now, actuatorByteTime, Nat.add_assoc]

/-- A run of bytes is its first part and then the rest. -/
theorem State.hearRun_append (s : State) (l l' : List RxByte) : s.hearRun (l ++ l') = (s.hearRun l).hearRun l' := by
  induction l generalizing s with
  | nil => rfl
  | cons b l ih => simp [hearRun, ih]

@[simp] theorem State.switchover_frame (s : State) :
    (s.switchover).now = s.now ∧
    (s.switchover).odo = s.odo ∧
    (s.switchover).route = s.route ∧
    (s.switchover).gateOpen = s.gateOpen ∧
    (s.switchover).frameStart = s.frameStart ∧
    (s.switchover).cars = s.cars ∧
    (s.switchover).link = s.link ∧
    (s.switchover).sup = s.sup ∧
    (s.switchover).unit = s.unit ∧
    (s.switchover).ctl.rxBuffer = s.ctl.rxBuffer ∧
    (s.switchover).ctl.rxLast = s.ctl.rxLast ∧
    (s.switchover).ctl.fifo = s.ctl.fifo ∧
    (s.switchover).ctl.replies = s.ctl.replies ∧
    (s.switchover).ctl.hold = s.ctl.hold ∧
    (s.switchover).ctl.crcErrors = s.ctl.crcErrors ∧
    (s.switchover).ctl.dropped = s.ctl.dropped ∧
    (s.switchover).pending = s.pending := by
  simp [switchover]

@[simp] theorem State.heardFrame_frame (s : State) :
    (s.heardFrame).now = s.now ∧
    (s.heardFrame).odo = s.odo ∧
    (s.heardFrame).route = s.route ∧
    (s.heardFrame).gateOpen = s.gateOpen ∧
    (s.heardFrame).frameStart = s.frameStart ∧
    (s.heardFrame).cars = s.cars ∧
    (s.heardFrame).link = s.link ∧
    (s.heardFrame).sup = s.sup ∧
    (s.heardFrame).unit = s.unit ∧
    (s.heardFrame).ctl.rxBuffer = s.ctl.rxBuffer ∧
    (s.heardFrame).ctl.rxLast = s.ctl.rxLast ∧
    (s.heardFrame).ctl.fifo = s.ctl.fifo ∧
    (s.heardFrame).ctl.replies = s.ctl.replies ∧
    (s.heardFrame).ctl.hold = s.ctl.hold ∧
    (s.heardFrame).ctl.crcErrors = s.ctl.crcErrors ∧
    (s.heardFrame).ctl.dropped = s.ctl.dropped ∧
    (s.heardFrame).pending = s.pending ∧
    (s.heardFrame).mon.inhibitLevel = s.mon.inhibitLevel ∧
    (s.heardFrame).mon.inhibitRun = s.mon.inhibitRun ∧
    (s.heardFrame).mon.inhibit = s.mon.inhibit ∧
    (s.heardFrame).mon.clock = s.mon.clock ∧
    (s.heardFrame).mon.clockFallback = s.mon.clockFallback := by
  dsimp only [heardFrame]; (repeat' split) <;> simp

@[simp] theorem State.stageCar_frame (s : State) (i : CarId) :
    (s.stageCar i).now = s.now ∧
    (s.stageCar i).odo = s.odo ∧
    (s.stageCar i).route = s.route ∧
    (s.stageCar i).gateOpen = s.gateOpen ∧
    (s.stageCar i).frameStart = s.frameStart ∧
    (s.stageCar i).link = s.link ∧
    (s.stageCar i).sup = s.sup ∧
    (s.stageCar i).mon = s.mon ∧
    (s.stageCar i).unit = s.unit ∧
    (s.stageCar i).ctl.rxBuffer = s.ctl.rxBuffer ∧
    (s.stageCar i).ctl.rxLast = s.ctl.rxLast ∧
    (s.stageCar i).ctl.fifo = s.ctl.fifo ∧
    (s.stageCar i).ctl.replies = s.ctl.replies ∧
    (s.stageCar i).ctl.hold = s.ctl.hold ∧
    (s.stageCar i).ctl.crcErrors = s.ctl.crcErrors ∧
    (s.stageCar i).ctl.dropped = s.ctl.dropped ∧
    (s.stageCar i).pending = s.pending := by
  dsimp only [stageCar]; (repeat' split) <;> simp

@[simp] theorem State.restartCar_frame (s : State) (i : CarId) :
    (s.restartCar i).now = s.now ∧
    (s.restartCar i).odo = s.odo ∧
    (s.restartCar i).route = s.route ∧
    (s.restartCar i).gateOpen = s.gateOpen ∧
    (s.restartCar i).frameStart = s.frameStart ∧
    (s.restartCar i).sup = s.sup ∧
    (s.restartCar i).mon = s.mon ∧
    (s.restartCar i).unit = s.unit ∧
    (s.restartCar i).ctl = s.ctl ∧
    (s.restartCar i).pending = s.pending ∧
    (s.restartCar i).link.pollStart = s.link.pollStart ∧
    (s.restartCar i).link.lineIdleFrom = s.link.lineIdleFrom ∧
    (s.restartCar i).link.cycle = s.link.cycle ∧
    (s.restartCar i).link.cyclePending = s.link.cyclePending ∧
    (s.restartCar i).link.overruns = s.link.overruns := by
  dsimp only [restartCar]; (repeat' split) <;> simp

end Sys2Proof.Machine
end

