-- ==== Sys2Proof/Laws/Requests.lean ====
section
/-! SUPPORT. Requests: what answering, queueing and serving leave, and how a property of the state that
every request keeps is kept by whatever the control link brings. -/

namespace Sys2Proof.Machine

/-- Answering a request leaves what its meaning left, but for the reply queue and the transmitter (R183). -/
@[simp] theorem answerRequest_frame (k t : Byte) (a : Answer) :
    (answerRequest k t a).now = a.state.now ∧ (answerRequest k t a).odo = a.state.odo ∧
    (answerRequest k t a).route = a.state.route ∧ (answerRequest k t a).gateOpen = a.state.gateOpen ∧
    (answerRequest k t a).frameStart = a.state.frameStart ∧ (answerRequest k t a).cars = a.state.cars ∧
    (answerRequest k t a).link = a.state.link ∧ (answerRequest k t a).sup = a.state.sup ∧
    (answerRequest k t a).mon = a.state.mon ∧ (answerRequest k t a).unit = a.state.unit ∧
    (answerRequest k t a).pending = a.state.pending ∧
    (answerRequest k t a).ctl.replies
      = a.state.ctl.replies ++ [{ kind := replyKind k, tag := t, status := a.status, data := a.data }] := by
  simp [answerRequest]

/-- A request command offers its frame and its meaning to the FIFO (log 5). -/
theorem exec_request (c : Instr) {k t : Byte} {m : State → Answer} (h : requestMeaning c = some (k, t, m)) (s : State) :
    ∃ f, encodeRequest c = some f ∧ exec c s = .next (s.offer f k t m) := by
  cases c <;> simp only [requestMeaning, reduceCtorEq, Option.some.injEq, Prod.mk.injEq] at h <;>
    (obtain ⟨rfl, rfl, rfl⟩ := h; exact ⟨_, rfl, rfl⟩)

/-- A property that reads nothing of the control link interface. -/
def IgnoresLink (P : State → Prop) : Prop := ∀ (s : State) (c : ControlLink), P s → P { s with ctl := c }

theorem State.postNotice_eq (s : State) (n : Notice) : s.postNotice n = { s with ctl := (s.postNotice n).ctl } := by
  cases h : s.postNotice n
  have := (s.postNotice_now n).symm; have := (s.postNotice_odo n).symm
  have := (s.postNotice_route n).symm; have := (s.postNotice_gateOpen n).symm
  have := (s.postNotice_frameStart n).symm; have := (s.postNotice_cars n).symm
  have := (s.postNotice_link n).symm; have := (s.postNotice_sup n).symm
  have := (s.postNotice_mon n).symm; have := (s.postNotice_unit n).symm
  have := (s.postNotice_pending n).symm
  simp_all

theorem State.pushReply_eq (s : State) (r : Reply) : s.pushReply r = { s with ctl := (s.pushReply r).ctl } := by
  cases h : s.pushReply r
  have := (s.pushReply_now r).symm; have := (s.pushReply_odo r).symm
  have := (s.pushReply_route r).symm; have := (s.pushReply_gateOpen r).symm
  have := (s.pushReply_frameStart r).symm; have := (s.pushReply_cars r).symm
  have := (s.pushReply_link r).symm; have := (s.pushReply_sup r).symm
  have := (s.pushReply_mon r).symm; have := (s.pushReply_unit r).symm
  have := (s.pushReply_pending r).symm
  simp_all

theorem State.chooseFrame_eq (s : State) : s.chooseFrame = { s with ctl := s.chooseFrame.ctl } := by
  cases h : s.chooseFrame
  have := s.chooseFrame_now.symm; have := s.chooseFrame_odo.symm
  have := s.chooseFrame_route.symm; have := s.chooseFrame_gateOpen.symm
  have := s.chooseFrame_frameStart.symm; have := s.chooseFrame_cars.symm
  have := s.chooseFrame_link.symm; have := s.chooseFrame_sup.symm
  have := s.chooseFrame_mon.symm; have := s.chooseFrame_unit.symm
  have := s.chooseFrame_pending.symm
  simp_all

theorem State.formationTest_eq (s : State) : s.formationTest = { s with ctl := s.formationTest.ctl } := by
  cases h : s.formationTest
  have := s.formationTest_now.symm; have := s.formationTest_odo.symm
  have := s.formationTest_route.symm; have := s.formationTest_gateOpen.symm
  have := s.formationTest_frameStart.symm; have := s.formationTest_cars.symm
  have := s.formationTest_link.symm; have := s.formationTest_sup.symm
  have := s.formationTest_mon.symm; have := s.formationTest_unit.symm
  have := s.formationTest_pending.symm
  simp_all

section Keeps

variable {P : State → Prop} (hl : IgnoresLink P)

include hl

theorem keeps_post {s : State} (k : NoticeKind) (c : Option CarId) (a b : BitVec 16) (h : P s) :
    P (s.post k c a b) := by
  rw [State.post, State.postNotice_eq]; exact hl _ _ h

theorem keeps_answer (k t : Byte) (a : Answer) (h : P a.state) : P (answerRequest k t a) := by
  rw [answerRequest, State.pushReply_eq]; exact hl _ _ h

theorem keeps_joinFifo {s : State} (f : Frame) (h : P s) : P (s.joinFifo f) := by
  unfold State.joinFifo; split
  · exact hl _ _ h
  · exact keeps_post hl _ _ _ _ (hl _ _ h)

theorem keeps_chooseFrame {s : State} (h : P s) : P s.chooseFrame := by
  rw [State.chooseFrame_eq]; exact hl _ _ h

theorem keeps_formationTest {s : State} (h : P s) : P s.formationTest := by
  rw [State.formationTest_eq]; exact hl _ _ h

variable (hr : ∀ (i : Instr) (k t : Byte) (m : State → Answer) (s : State),
  requestMeaning i = some (k, t, m) → P s → P (m s).state)

include hr

theorem keeps_takeFrame {s : State} (f : Frame) (h : P s) : P (s.takeFrame f) := by
  unfold State.takeFrame
  split
  · exact keeps_answer hl _ _ _ h
  · exact keeps_answer hl _ _ _ h
  · split
    · next hm => exact keeps_answer hl _ _ _ (hr _ _ _ _ _ hm h)
    · exact keeps_answer hl _ _ _ h

theorem keeps_serve {s : State} (h : P s) : P s.serve := by
  unfold State.serve
  generalize s.ctl.fifo.length = n
  induction n generalizing s with
  | zero => exact h
  | succ n ih =>
    unfold serveFrames
    split
    · exact h
    · split
      · exact ih (keeps_takeFrame hl hr _ (hl _ _ h))
      · exact h

theorem keeps_offer {s : State} {i : Instr} (f : Frame) {k t : Byte} {m : State → Answer}
    (hm : requestMeaning i = some (k, t, m)) (h : P s) : P (s.offer f k t m) := by
  unfold State.offer; split
  · exact keeps_answer hl _ _ _ (hr _ _ _ _ _ hm h)
  · exact keeps_serve hl hr (keeps_joinFifo hl _ h)

variable (hh : ∀ s, P s → P s.heardFrame)

include hh

theorem keeps_handle {s : State} (f : Found) (h : P s) : P (s.handle f) := by
  cases f with
  | frame f => exact keeps_serve hl hr (hh _ (keeps_joinFifo hl _ h))
  | discard => exact hl _ _ h

theorem keeps_receiveByte {s : State} (b : Byte) (h : P s) : P (s.receiveByte b) := by
  unfold State.receiveByte
  refine foldl_keeps P _ (fun s f => keeps_handle hl hr hh f) _ _ (hl _ _ ?_)
  unfold State.closeGap; split
  · exact hl _ _ (hl _ _ h)
  · exact h

theorem keeps_receiveBytes (ht : ∀ s t, P s → P (s.runTo t)) {s : State} (start k : Nat) (bs : List Byte) (h : P s) :
    P (receiveBytes start k bs s) := by
  induction bs generalizing s k with
  | nil => exact h
  | cons b bs ih => exact ih _ (keeps_receiveByte hl hr hh b (ht _ _ h))

variable (ht : ∀ s n, s.now ≤ n → P s → P { s with now := n }) (hrestart : ∀ s, P s → P s.restart)

include ht

include hrestart

/-- What the control link brings keeps a property that every request, a valid frame at the Monitor, the
passing of time and a restart keep. -/
theorem keeps_control (c : Instr)
    (hc : (requestMeaning c).isSome ∨ (∃ k t p, c = .unknownRequest k t p) ∨ (∃ d bs, c = .controlFrameReceived d bs)
      ∨ (∃ d b, c = .controlLinkByteReceived d b)
      ∨ c ∈ [Instr.frameGapTimeout, .replySent, .batchSent, .quietTimerExpiry, .absoluteTimerExpiry])
    {s t : State} (he : exec c s = .next t) (h : P s) : P t := by
  have hrun : ∀ s n, P s → P (State.runTo s n) := fun s n h => ht _ _ (Nat.le_max_left _ _) h
  rcases hc with hc | ⟨k, tag, p, rfl⟩ | ⟨d, bs, rfl⟩ | ⟨d, b, rfl⟩ | hc
  · obtain ⟨⟨k, tag, m⟩, hm⟩ := Option.isSome_iff_exists.mp hc
    obtain ⟨f, -, hf⟩ := exec_request c hm s
    rw [hf] at he; injection he with he; subst he
    exact keeps_offer hl hr _ hm h
  · injection he with he; subst he
    split
    · exact keeps_takeFrame hl hr _ h
    · exact keeps_serve hl hr (keeps_joinFifo hl _ h)
  · injection he with he; subst he
    exact keeps_receiveBytes hl hr hh hrun _ _ _ (ht _ _ (Nat.le_add_right _ _) h)
  · injection he with he; subst he
    exact keeps_receiveByte hl hr hh _ (ht _ _ (Nat.le_add_right _ _) h)
  · simp only [List.mem_cons, List.not_mem_nil, or_false] at hc
    rcases hc with rfl | rfl | rfl | rfl | rfl <;> injection he with he <;> subst he
    · split
      · unfold State.closeGap; split
        · exact hl _ _ (hl _ _ (hrun _ _ h))
        · exact hrun _ _ h
      · exact h
    · split
      · dsimp only
        split
        · exact hrestart _ (hl _ _ (hrun _ _ h))
        · exact keeps_chooseFrame hl (hl _ _ (keeps_serve hl hr (hl _ _ (hrun _ _ h))))
      · exact h
    · split
      · exact keeps_chooseFrame hl (hl _ _ (keeps_formationTest hl (hl _ _ (hrun _ _ h))))
      · exact h
    · split
      · exact keeps_formationTest hl (hl _ _ (hrun _ _ h))
      · exact h
    · split
      · exact keeps_formationTest hl (hl _ _ (hrun _ _ h))
      · exact h

end Keeps

end Sys2Proof.Machine
end

