-- ==== Sys2Proof/Laws/Reports.lean ====
section
/-! SUPPORT. What a run of postings and a reply make of the control link interface, composed from the
single posting and the single reply. -/

namespace Sys2Proof.Machine

theorem ControlLink.Reports.refl (c : ControlLink) : c.Reports c [] [] := by
  constructor <;> simp

theorem ControlLink.Reports.trans {c d e : ControlLink} {r₁ r₂ : List Reply} {n₁ n₂ : List Notice}
    (h₁ : c.Reports d r₁ n₁) (h₂ : d.Reports e r₂ n₂) : c.Reports e (r₁ ++ r₂) (n₁ ++ n₂) where
  receiver := ⟨h₂.receiver.1.trans h₁.receiver.1, h₂.receiver.2.trans h₁.receiver.2⟩
  requests := ⟨h₂.requests.1.trans h₁.requests.1, h₂.requests.2.trans h₁.requests.2⟩
  counts := ⟨h₂.counts.1.trans h₁.counts.1, h₂.counts.2.trans h₁.counts.2⟩
  replies := by rw [h₂.replies, h₁.replies, List.append_assoc]
  notices h := by
    have g := h₁.grows
    simp only [List.length_append] at h
    obtain ⟨a₁, b₁⟩ := h₁.notices (by omega)
    obtain ⟨a₂, b₂⟩ := h₂.notices (by omega)
    rw [a₂, a₁, b₂, b₁]
    simp
  grows := by
    have := h₁.grows; have := h₂.grows
    simp only [List.length_append]; omega
  slot b h := h₂.slot b (h₁.slot b h)
  line h := by rw [h₂.line (by rw [h₁.line h]; exact h), h₁.line h]
  quiet h := by
    obtain ⟨e₁, e₂⟩ := List.append_eq_nil_iff.mp h
    have a := h₁.quiet e₁; have b := h₂.quiet e₂
    simp_all

/-- One posting (R186 to R188). -/
theorem State.postNotice_reports (s : State) (n : Notice) : s.ctl.Reports (s.postNotice n).ctl [] [n] where
  receiver := ⟨by simp, by simp⟩
  requests := ⟨by simp, by simp⟩
  counts := ⟨by simp, by simp⟩
  replies := by simp
  notices h := by
    have h : s.ctl.notices.length < 32 := by simp at h; omega
    refine ⟨postNotice_undelivered s n h, ?_⟩
    rw [postNotice, if_pos h]
    unfold formationTest
    split
    next hd =>
      have hs : s.ctl.slot = none := by simp_all [joinNotice]
      simp [ControlLink.unreported, formBatch, joinNotice, hs]
    next => rfl
  grows := by have := postNotice_length s n; simpa using this
  slot b hb := by
    unfold postNotice formationTest
    split
    · split
      next hd => simp_all [joinNotice]
      next => simpa [joinNotice] using hb
    · simpa using hb
  line h := by
    unfold postNotice formationTest
    split
    · split
      · rw [chooseFrame_busy _ (by simpa [formBatch, joinNotice] using h)]; rfl
      · rfl
    · rfl
  quiet h := by simp at h

theorem State.post_reports (s : State) (k : NoticeKind) (c : Option CarId) (a b : BitVec 16) :
    s.ctl.Reports (s.post k c a b).ctl [] [s.notice k c a b] := postNotice_reports _ _

theorem State.changeMode_reports (s : State) (m : Mode) :
    s.ctl.Reports (s.changeMode m).ctl [] [s.modeNotice m s.unit.mode] :=
  post_reports { s with unit := { s.unit with mode := m } } _ _ _ _

theorem State.enter_reports (s : State) (i : CarId) (st : CarState) (c : CarCause) :
    s.ctl.Reports (s.enter i st c).ctl [] [s.carNotice i st c] :=
  post_reports (s.setCar i _) _ _ _ _

/-- A reply placed in the queue (R182, R185). -/
theorem State.pushReply_replied (s : State) (r : Reply) : s.pushReply r = s.replied r := by
  unfold pushReply chooseFrame replied
  cases h : s.ctl.transmitter <;> simp [h]

theorem State.replied_reports (s : State) (r : Reply) : s.ctl.Reports (s.replied r).ctl [r] [] := by
  constructor <;> simp [State.replied, ControlLink.undelivered, ControlLink.unreported]
  intro h; cases h' : s.ctl.transmitter <;> simp_all

theorem answerRequest_replied (k t : Byte) (a : Answer) :
    answerRequest k t a = a.state.replied ⟨replyKind k, t, a.status, a.data⟩ := State.pushReply_replied _ _

/-- A request taken at once (R182, R183). -/
theorem State.offer_ready {s : State} (h : s.ready) (f : Frame) (k t : Byte) (m : State → Answer) :
    s.offer f k t m = (m s).state.replied ⟨replyKind k, t, (m s).status, (m s).data⟩ := by
  obtain ⟨h₁, h₂, h₃⟩ := h
  rw [offer, if_pos ⟨h₁, by simp [canTake, h₂, h₃]⟩, answerRequest_replied]

theorem exec_ready {c : Instr} {k t : Byte} {m : State → Answer} (hm : requestMeaning c = some (k, t, m))
    {s : State} (h : s.ready) :
    exec c s = .next ((m s).state.replied ⟨replyKind k, t, (m s).status, (m s).data⟩) := by
  obtain ⟨f, -, e⟩ := exec_request c hm s
  rw [e, State.offer_ready h]

/-- Everything but the control link interface of a state that posts. -/
theorem State.post_eq (s : State) (k : NoticeKind) (c : Option CarId) (a b : BitVec 16) :
    s.post k c a b = { s with ctl := (s.post k c a b).ctl } := State.postNotice_eq _ _

/-- A change of a car's state while no drain can complete (R100). -/
theorem State.enter_eq (s : State) (i : CarId) (st : CarState) (c : CarCause) :
    s.enter i st c = { s with cars := s.cars.set i (s.cars[i].into st), ctl := (s.enter i st c).ctl } :=
  State.post_eq (s.setCar i _) _ _ _ _

/-! ## Changes of a car's state that complete no drain -/

theorem State.drainComplete_false (s : State) :
    s.drainComplete = false ↔ ∃ i : CarId, i.val < s.unit.settings.carCount ∧ s.cars[i].state.drained = false := by
  simp [drainComplete, configured, mem_allCars]

/-- The entry into a state that leaves some configured car undone completes no drain (R100). -/
theorem State.transition_enter (s : State) (i : CarId) (st : CarState) (c : CarCause)
    (h : s.unit.mode = .draining → ∃ j : CarId, j.val < s.unit.settings.carCount
      ∧ (if i = j then st else s.cars[j].state).drained = false) :
    s.transition i st c = s.enter i st c := by
  apply transition_eq
  by_cases hm : s.unit.mode = .draining
  · refine .inr ?_
    rw [drainComplete_false]
    obtain ⟨j, hj, hd⟩ := h hm
    refine ⟨j, by simpa using hj, ?_⟩
    rw [enter_get]
    split <;> simp_all
  · exact .inl hm

/-- Every TRACKING car is of the train while the mode is DRAINING. -/
def State.TrackingConfigured (s : State) : Prop :=
  s.unit.mode = .draining → ∀ i : CarId, s.cars[i].state = .tracking → i.val < s.unit.settings.carCount

theorem State.CarsSound.trackingConfigured {s : State} (h : s.CarsSound) : s.TrackingConfigured := by
  intro _ i hi
  by_contra hc
  have := ((h.cars i).offline).mpr (by omega)
  rw [hi] at this; cases this

/-- A centring cause at one car. -/
theorem State.centreCar_spec (s : State) (c : CarCause) (i : CarId) (h : s.TrackingConfigured) :
    s.centreCar c i = { s with cars := s.cars.set i s.cars[i].centred, ctl := (s.centreCar c i).ctl }
      ∧ s.ctl.Reports (s.centreCar c i).ctl []
        (if s.cars[i].state = .tracking then [s.carNotice i .returning c] else []) := by
  unfold centreCar CarChannel.centred
  by_cases ht : s.cars[i].state = .tracking
  · have he : s.transition i .returning c = s.enter i .returning c :=
      transition_enter _ _ _ _ (fun hm => ⟨i, h hm i ht, by simp [CarState.drained]⟩)
    simp only [ht, if_true, he]
    exact ⟨enter_eq _ _ _ _, enter_reports _ _ _ _⟩
  · simp only [ht, if_false]
    refine ⟨?_, .refl _⟩
    have : s.cars.set i s.cars[i] = s.cars := by simp
    rw [this]

/-- The states agree outside the cars and the control link interface. -/
theorem State.eq_of_frame {s t : State} (h₁ : t.now = s.now) (h₂ : t.odo = s.odo) (h₃ : t.route = s.route)
    (h₄ : t.gateOpen = s.gateOpen) (h₅ : t.frameStart = s.frameStart) (h₆ : t.link = s.link) (h₇ : t.sup = s.sup)
    (h₈ : t.mon = s.mon) (h₉ : t.unit = s.unit) (h₁₀ : t.pending = s.pending) :
    t = { s with cars := t.cars, ctl := t.ctl } := by
  cases s; cases t; simp_all

/-- A train-level centring cause at a list of cars, each taken once. -/
theorem State.centre_list_spec (c : CarCause) (l : List CarId) (hl : l.Nodup) (s : State) (h : s.TrackingConfigured) :
    let t := l.foldl (fun s i => s.centreCar c i) s
    t = { s with cars := t.cars, ctl := t.ctl }
      ∧ s.ctl.Reports t.ctl []
        ((l.filter (fun i => s.cars[i].state == .tracking)).map (fun i => s.carNotice i .returning c)) := by
  induction l generalizing s with
  | nil => exact ⟨rfl, .refl _⟩
  | cons i l ih =>
    obtain ⟨e, r⟩ := s.centreCar_spec c i h
    have hi : i ∉ l := (List.nodup_cons.mp hl).1
    have hu : (s.centreCar c i).TrackingConfigured := by
      intro hm j hj
      rw [e] at hm ⊢
      refine h hm j ?_
      have hg := s.centreCar_get c i j
      rw [hg] at hj
      by_cases hij : i = j
      · rw [if_pos hij] at hj; exact absurd hj (CarChannel.centred_state _)
      · rw [if_neg hij] at hj; exact hj
    obtain ⟨e₂, r₂⟩ := ih (List.nodup_cons.mp hl).2 (s.centreCar c i) hu
    simp only [List.foldl_cons]
    refine ⟨?_, ?_⟩
    · have hm : (s.centreCar c i).unit = s.unit := by rw [e]
      refine e₂.trans ?_
      simp only [hm, centreCar_now, centreCar_odo, centreCar_route, centreCar_gateOpen, centreCar_frameStart,
        centreCar_link, centreCar_sup, centreCar_mon, centreCar_pending]
    · have hr := r.trans r₂
      rw [List.append_nil] at hr
      have hf : l.filter (fun j => (s.centreCar c i).cars[j].state == .tracking)
          = l.filter (fun j => s.cars[j].state == .tracking) := by
        apply List.filter_congr
        intro j hj
        rw [centreCar_get, if_neg (by rintro rfl; exact hi hj)]
      rw [hf] at hr
      have hn : ∀ j, (s.centreCar c i).carNotice j .returning c = s.carNotice j .returning c := by
        intro j; simp [carNotice, notice]
      simp only [hn] at hr
      rw [List.filter_cons]
      by_cases ht : s.cars[i].state = .tracking
      · simpa [ht, -Fin.getElem_fin] using hr
      · simpa [ht, -Fin.getElem_fin] using hr

/-- A train-level centring cause (R91). -/
theorem State.centreAll_spec (s : State) (c : CarCause) (h : s.TrackingConfigured) :
    s.centreAll c = { s with cars := s.cars.map CarChannel.centred, ctl := (s.centreAll c).ctl }
      ∧ s.ctl.Reports (s.centreAll c).ctl [] (s.trackingCars.map (fun i => s.carNotice i .returning c)) := by
  obtain ⟨e, r⟩ := centre_list_spec c allCars (by decide) s h
  refine ⟨?_, r⟩
  have hc : (s.centreAll c).cars = s.cars.map CarChannel.centred := by
    apply Vector.ext; intro j hj
    have := s.centreAll_get c ⟨j, hj⟩
    simpa using this
  rw [← hc]; exact e

/-- A car's state changes to one that counts the same in an unfinished drain (R100). -/
theorem State.transition_same (s : State) (i : CarId) (st : CarState) (c : CarCause)
    (hd : s.unit.mode = .draining → s.drainComplete = false) (h : st.drained = s.cars[i].state.drained) :
    s.transition i st c = s.enter i st c := by
  apply transition_enter
  intro hm
  obtain ⟨j, hj, hn⟩ := s.drainComplete_false.mp (hd hm)
  refine ⟨j, hj, ?_⟩
  split
  · next hij => subst hij; rw [h, hn]
  · exact hn

theorem State.setLatch_tracking {s : State} (i : CarId) (r : Option LatchReason) (h : s.TrackingConfigured) :
    (s.setLatch i r).TrackingConfigured := by
  intro hm j hj
  refine h hm j ?_
  rw [setLatch_get] at hj
  split at hj
  · next hij => subst hij; exact hj
  · exact hj

theorem State.setLatch_drain {s : State} (i : CarId) (r : Option LatchReason)
    (h : s.unit.mode = .draining → s.drainComplete = false) :
    (s.setLatch i r).unit.mode = .draining → (s.setLatch i r).drainComplete = false := by
  intro hm
  obtain ⟨j, hj, hn⟩ := s.drainComplete_false.mp (h hm)
  refine (drainComplete_false _).mpr ⟨j, hj, ?_⟩
  rw [setLatch_get]
  split
  · next hij => subst hij; exact hn
  · exact hn

/-- A car-level centring cause while no drain can end by it (R91, R92). -/
theorem State.carCause_spec (s : State) (i : CarId) (c : LatchReason) (r : Reaction) (h : s.TrackingConfigured)
    (hd : s.unit.mode = .draining → s.drainComplete = false) :
    s.carCause i c r = { s with cars := s.cars.set i (s.cars[i].caused c r), ctl := (s.carCause i c r).ctl }
      ∧ s.ctl.Reports (s.carCause i c r).ctl []
        (if (s.cars[i].caused c r).state = s.cars[i].state then []
          else [s.carNotice i (s.cars[i].caused c r).state c.carCause]) := by
  have hlatch : ∀ rr, (s.setLatch i rr).cars[i] = { s.cars[i] with latchReason := rr } := by
    intro rr; rw [setLatch_get, if_pos rfl]
  have hset : ∀ rr x, (s.setLatch i rr).cars.set i x = s.cars.set i x := by
    intro rr x; simp [setLatch, setCar]
  unfold carCause CarChannel.caused
  rw [mergeLatch_eq]
  cases hs : s.cars[i].state <;> cases r <;> dsimp only
  case tracking.centreAndContinue =>
    have he := transition_enter s i .returning c.carCause (fun hm => ⟨i, h hm i hs, by simp [CarState.drained]⟩)
    rw [he]
    refine ⟨?_, ?_⟩
    · simpa [CarChannel.into] using s.enter_eq i .returning c.carCause
    · simpa [CarChannel.into] using s.enter_reports i .returning c.carCause
  case tracking.centreAndLatch =>
    have he := transition_enter (s.setLatch i (some c)) i .returning c.carCause
      (fun hm => ⟨i, h hm i hs, by simp [CarState.drained]⟩)
    rw [he]
    have e := (s.setLatch i (some c)).enter_eq i .returning c.carCause
    rw [hlatch, hset] at e
    refine ⟨?_, ?_⟩
    · simpa [CarChannel.into] using e
    · simpa [CarChannel.into, carNotice, notice] using (s.setLatch i (some c)).enter_reports i .returning c.carCause
  case centred.centreAndLatch =>
    have he := transition_same (s.setLatch i (some c)) i .latched c.carCause (setLatch_drain _ _ hd)
      (by rw [hlatch]; simp [hs, CarState.drained, -Fin.getElem_fin])
    rw [he]
    have e := (s.setLatch i (some c)).enter_eq i .latched c.carCause
    rw [hlatch, hset] at e
    refine ⟨?_, ?_⟩
    · simpa [CarChannel.into] using e
    · simpa [CarChannel.into, carNotice, notice] using (s.setLatch i (some c)).enter_reports i .latched c.carCause
  all_goals
    have hs' := hs
    simp only [Fin.getElem_fin] at hs'
    refine ⟨?_, by simpa [hs, -Fin.getElem_fin] using ControlLink.Reports.refl _⟩
    simp [setLatch, setCar, hs']

end Sys2Proof.Machine
end

