-- ==== Sys2Proof/Tests/Slice0.lean ====
section
/-! SUPPORT. Tests: ill-formed commands refused, frames and figures worked out in the document, one step of
every command, and states that meet the hypotheses of each statement. -/

open Sys2Proof Sys2Proof.Machine

namespace Sys2Proof.Tests

-- One theorem at a time: each kernel evaluation in progress holds a thread and its stack.
set_option Elab.async false

/-! ## WellFormed: an ill-formed command for each check -/

theorem test_wf_short_pulse : Instr.wf (.tachoPulse 0 .a true 19) = false := by decide
theorem test_wf_no_marker_sample : Instr.wf (.markerPulse 0 []) = false := by decide
theorem test_wf_no_high_sample : Instr.wf (.inhibitSet 0 0) = false := by decide
theorem test_wf_no_low_sample : Instr.wf (.inhibitClear 0 0) = false := by decide
theorem test_wf_late_setpoint : Instr.wf (.setpointSend 3981) = false := by decide
theorem test_wf_pause_in_reception : Instr.wf (.statusReception 0 [⟨0, false, 0⟩, ⟨0, false, 20⟩]) = false := by
  decide
theorem test_wf_idle_line : Instr.wf (.statusReception 0 []) = true := by decide
theorem test_wf_no_sync : Instr.wf (.controlFrameReceived 0 [0xC2, 0, 1, 0x11, 0xFD, 0xBD]) = false := by decide
theorem test_wf_frame_too_long :
    Instr.wf (.controlFrameReceived 0 (0xC3 :: 121 :: List.replicate 125 0)) = false := by decide
theorem test_wf_frame_cut_short : Instr.wf (.controlFrameReceived 0 [0xC3, 0, 1, 0x11, 0xFD]) = false := by decide
theorem test_wf_known_kind : Instr.wf (.unknownRequest 0x11 0 []) = false := by decide
theorem test_wf_payload_too_long : Instr.wf (.unknownRequest 0x12 0 (List.replicate 121 0)) = false := by decide
theorem test_wf_no_record : Instr.wf (.routeAppend 0 0 []) = false := by decide
theorem test_wf_seven_records :
    Instr.wf (.routeAppend 0 0 (List.replicate 7 ⟨0, 100, 0, 0, 0, 0, 0, none⟩)) = false := by decide
theorem test_wf_resume_of_all : Instr.wf (.resume 0 0xFF) = false := by decide

/-! ## Bytes written out from chapter 11 -/

/-- The length word and cap of segment 105 (section 11.3). -/
theorem test_record_of_segment_105 :
    SegmentPayload.bytes ⟨105, 40000, 0, 0, 0, 0, 0, some 300⟩
      = [0x00, 0x69, 0x20, 0x9C, 0x40, 0, 0, 0, 0, 0, 0, 0, 0, 0x01, 0x2C] := by decide +kernel

/-- A left-hand transition: −1,667 is 0xF97D and −150 is 0xFF6A. -/
theorem test_append_read_back : decodeRequest ⟨0x08, 0x25,
      [0x00, 0x13, 0x12, 0xD0, 0x00, 0x66, 0x00, 0x2E, 0xE0, 0x00, 0x00, 0xF9, 0x7D, 0x00, 0x00, 0xFF, 0x6A]⟩
    = .request (.routeAppend 0x25 1250000
        [⟨102, 12000, 0, 0, BitVec.ofInt 16 (-1667), 0, BitVec.ofInt 16 (-150), none⟩]) := by decide +kernel

/-- A cap that the payload does not hold makes the length wrong (R195). -/
theorem test_append_cut_short : decodeRequest ⟨0x08, 0x25,
      [0x00, 0x13, 0x12, 0xD0, 0x00, 0x66, 0x20, 0x2E, 0xE0, 0x00, 0x00, 0xF9, 0x7D, 0x00, 0x00, 0xFF, 0x6A]⟩
    = .badLength := by decide +kernel

theorem test_identify_frame :
    (encodeRequest (.identify 0x11)).map Frame.bytes = some [0xC3, 0x00, 0x01, 0x11, 0xFD, 0xBD] := by decide +kernel

theorem test_set_mode_frame : (encodeRequest (.setModeRun 0x21)).map Frame.bytes
    = some [0xC3, 0x01, 0x05, 0x21, 0x01, 0x3C, 0x72] := by decide +kernel

theorem test_set_position_read :
    decodeRequest ⟨0x06, 0x22, [0x00, 0x12, 0x94, 0x40]⟩ = .request (.setPosition 0x22 1217600) := by decide +kernel

theorem test_position_fix_read : decodeRequest ⟨0x07, 0x27, [0x11, 0x00, 0x12, 0x11, 0x32]⟩
    = .request (.positionFix 0x27 17 1184050) := by decide +kernel

/-- The law of the start-up procedure (section 9.9). -/
theorem test_tilt_law_frame :
    (encodeRequest (.setTiltLaw 0x23 ⟨600, 300, 1500, 300, 400, 1000⟩)).map Frame.bytes
      = some [0xC3, 0x0C, 0x03, 0x23, 0x02, 0x58, 0x01, 0x2C, 0x05, 0xDC, 0x01, 0x2C, 0x01, 0x90, 0x03, 0xE8,
        0xEF, 0x03] := by decide +kernel

/-- The defaults of Table 9-4. -/
theorem test_train_set_read : decodeRequest ⟨0x04, 0x24,
      [0x4B, 0xF4, 0x05, 0xDC, 0x05, 0x0B, 0xB8, 0x07, 0xD0, 0x00, 0x03, 0x0D, 0x40]⟩
    = .request (.setTrainSet 0x24 ⟨19444, 1500, 5, 3000, 2000, 200000⟩) := by decide +kernel

/-- The train of the start-up procedure (section 9.9), every other field at its default. -/
def startUpTrain : TrainPayload :=
  ⟨8, #v[0, 2600, 5030, 7560, 10070, 12580, 15090, 17600], 28274, 28274, 5, 800, 500, 500, 0, 1, 0, 4, 50, 200⟩

theorem test_configure_frame : (encodeRequest (.configureTrain 0x26 startUpTrain)).map Frame.bytes
    = some [0xC3, 0x24, 0x02, 0x26, 0x08, 0x00, 0x00, 0x0A, 0x28, 0x13, 0xA6, 0x1D, 0x88, 0x27, 0x56, 0x31, 0x24,
        0x3A, 0xF2, 0x44, 0xC0, 0x6E, 0x72, 0x6E, 0x72, 0x05, 0x03, 0x20, 0x01, 0xF4, 0x01, 0xF4, 0x00, 0x01,
        0x00, 0x04, 0x00, 0x32, 0x00, 0xC8, 0x88, 0xE6] := by decide +kernel

/-- A SETPOINT frame: −346 cdeg is 0xFEA6, −100 cdeg/s is 0xFF9C (Table 11-9). -/
theorem test_setpoint_frame : SetpointFrame.bytes ⟨2, true, BitVec.ofInt 16 (-346), BitVec.ofInt 16 (-100), 7⟩
    = [0x02, 0x01, 0xFE, 0xA6, 0xFF, 0x9C, 0x07, 0x0B, 0x9E] := by decide +kernel

/-- A reply of 705 cdeg and 1,130 mm/s² (Tables 7-2, 11-9). -/
def goodReply : List RxByte :=
  [0x02, 0x07, 0x00, 0x02, 0xC1, 0x04, 0x6A, 0x00, 0x1E, 0x6E].map (fun b : Byte => ⟨b, false, 0⟩)

theorem test_good_reply : judgeReception 2 7 goodReply = .good 0 ⟨705, 1130, 0⟩ := by decide +kernel
theorem test_wrong_echo : judgeReception 2 8 goodReply = .corrupt := by decide +kernel
theorem test_short_reply : judgeReception 2 7 (goodReply.take 9) = .corrupt := by decide +kernel

/-- The first frame the module sends (R191). -/
theorem test_started_frame : startedBatch.bytes = [0xC3, 0x0C, 0x40, 0x00, 0x00, 0x00, 0x00, 0xFF, 0x00, 0x00,
    0x00, 0x00, 0x00, 0x00, 0x00, 0x00, 0x55, 0xB6] := by decide +kernel

/-- The example of section 10.1: the frame inside the damaged one is found. -/
theorem test_rescan_inner_frame :
    scan 0 ([0xC3, 0x05] ++ frameBytes 0x0A 0x11 [] ++ [0, 0, 0]) = ([.discard, .frame ⟨0x0A, 0x11, []⟩], []) := by
  decide +kernel

/-! ## Figures worked in the document -/

/-- Section 1.1. -/
def fourPeriods : TachoChannel := ⟨true, 0, some 10000, [636, 636, 636, 636], 0⟩
theorem test_speed_just_after : fourPeriods.speed 28274 10500 = 44455 := by decide +kernel
theorem test_speed_overdue : fourPeriods.speed 28274 11000 = 38891 := by decide +kernel
theorem test_speed_stalled : fourPeriods.speed 28274 2010021 = 0 := by decide +kernel

/-- Table 2-5. -/
theorem test_interpolation : interpolate 0 1667 6666 12000 = 926 ∧ interpolate 0 150 6666 12000 = 83
    ∧ interpolate 0 1667 11999 12000 = 1666 ∧ interpolate 0 (-1000) 3 8000 = 0
    ∧ interpolate 0 (-120) 4000 8000 = -60 := by decide +kernel

/-- Table 3-2. -/
theorem test_lateral_acceleration : lateralAcceleration 44444 926 83 = 1287
    ∧ lateralAcceleration 44444 (-926) (-83) = -1287 ∧ lateralAcceleration 44444 1667 150 = 2312
    ∧ lateralAcceleration 19444 1667 150 = -350 ∧ lateralAcceleration 90000 20000 0 = 9999
    ∧ lateralAcceleration 0 1667 150 = -980 := by decide +kernel

/-- Sections 3.4 and 3.5: the raw tilts of 987, 2,012, −50 and 9,999 mm/s². -/
theorem test_raw_tilt : rawTilt 987 600 = 346 ∧ rawTilt 2012 600 = 705 ∧ rawTilt 2012 700 = 822
    ∧ rawTilt (-50) 600 = -17 ∧ rawTilt 9999 1000 = 5842 := by decide +kernel

/-- Table 3-5. -/
theorem test_clamp : clampTilt 822 800 = (800, .capped) ∧ clampTilt (-822) 800 = (-800, .capped)
    ∧ clampTilt 705 800 = (705, .law) ∧ clampTilt 705 200 = (200, .capped) := by decide +kernel

/-- The rounding of R77. -/
theorem test_rounding : roundCdeg 34550 = 346 ∧ roundCdeg 34549 = 345 ∧ roundCdeg (-34550) = -346
    ∧ roundCdeg (-49) = 0 := by decide +kernel

/-- Frames 1, 44, 60 and 62 of Table 4-3, and frame 32 of Table 4-4. -/
theorem test_profile_steps : profileStep 0 0 346 defaultLaw 800 = (40, 20)
    ∧ profileStep 26800 400 346 defaultLaw 800 = (27560, 380)
    ∧ profileStep 34160 80 346 defaultLaw 800 = (34360, 100)
    ∧ profileStep 34520 80 346 defaultLaw 800 = (34600, 0)
    ∧ profileStep 12960 140 132 defaultLaw 800 = (13200, 0) := by decide +kernel

/-- The tilt terms of Table 7-2. -/
theorem test_tilt_term : tiltTerm 705 = 1206 ∧ tiltTerm 625 = 1069 ∧ tiltTerm (-622) = -1064 := by decide +kernel

/-! ## One step of each command -/

/-- The state after a command. -/
def after (c : Instr) (s : State) : State :=
  match exec c s with
  | .next t => t
  | .fault _ => s
  | .refused _ => s

/-- The reply a command leaves last: its KIND, status and data. -/
def lastReply (s : State) : Option (Byte × Status × List Byte) :=
  s.ctl.replies.getLast?.map (fun r => (r.kind, r.status, r.data))

/-- The kinds of the notices that are posted and not delivered. -/
def told (s : State) : List NoticeKind := s.undelivered.map Notice.kind

/-- A module in CONFIG with nothing on the control link. -/
def quietLine : State := State.blank .powerOn

/-- The route of Table 5-7. -/
def worked : List Segment :=
  [⟨101, 1200000, 50000, 0, 0, 0, 0, false, none⟩, ⟨102, 1250000, 12000, 0, 1667, 0, 150, false, none⟩,
   ⟨103, 1262000, 30000, 1667, 1667, 150, 150, false, none⟩,
   ⟨204, 1292000, 12000, 1667, 0, 150, 0, false, none⟩, ⟨205, 1304000, 60000, 0, 0, 0, 0, false, none⟩]

/-- The law of the worked demand (section 3.5). -/
def workedLaw : TiltLaw := { defaultLaw with leadTime := 1500 }

/-- A car on the law of the worked demand. -/
def carIn (st : CarState) : CarChannel := { CarChannel.reset with state := st, law := workedLaw }

/-- The train of the worked demand in RUN at 44,444 mm/s, its cars TRACKING, just before a frame that finds car
0 at 1,255,030 (section 3.5). -/
def curve : State := { quietLine with
  now := 19950
  odo := { Odometry.reset with
    position := 1255030, positionValid := true, remainder := 6130
    tachoA := ⟨true, 19800, some 19800, [625, 625, 625, 625], 0⟩ }
  route := { RouteQueue.reset with
    ring := worked, anchored := true, headStart := 1200000, endChainage := 1364000 }
  gateOpen := true
  cars := Vector.replicate 8 (carIn .tracking)
  unit := { ModeUnit.reset .powerOn with
    mode := .run, stagedLaw := workedLaw
    settings := { defaultSettings with
      carCount := 8, offsets := #v[0, 2600, 5030, 7560, 10070, 12580, 15090, 17600], dppA := 27778 } } }

/-- The poll of car 3 with a phase. -/
def polling (p : Phase) (s : State) : State :=
  { s with link := { s.link with cycle := some ⟨allCars, 3, [4, 5, 6, 7], p⟩ } }

/-- Car `i` in a state. -/
def withCar (i : CarId) (c : CarChannel) (s : State) : State := { s with cars := s.cars.set i c }

/-- What the master holds for car `i`. -/
def withDrive (i : CarId) (d : Drive) (s : State) : State :=
  { s with link := { s.link with drives := s.link.drives.set i d } }

/-- A different mode. -/
def inMode (m : Mode) (s : State) : State := { s with unit := { s.unit with mode := m } }

/-- Notices queued, the batch sequence at 23 (section 10.5). -/
def queued (ns : List NoticeKind) (s : State) : State :=
  { s with ctl := { s.ctl with notices := ns.map (fun k => s.notice k none 0 0), batchSequence := 23 } }

theorem test_reset_line_makes_config : (after (.hardwareReset false) curve).unit.mode = .config
    ∧ (after (.hardwareReset false) curve).unit.resetCause = .resetLine := by decide +kernel

/-- The pulse of R6: 36,274 µm in the remainder. -/
theorem test_pulse_carries_centimetres :
    let t := after (.tachoPulse 500 .a true 20) { curve with
      odo := { curve.odo with remainder := 8000 }
      unit := { curve.unit with settings := { curve.unit.settings with dppA := 28274 } } }
    t.odo.position = 1255033 ∧ t.odo.remainder = 6274 ∧ t.odo.tachoA.periods = [630, 625, 625, 625] := by
  decide +kernel
theorem test_short_pulse_discarded :
    (after (.tachoPulse 500 .a true 19) curve).odo.position = 1255030 := by decide +kernel

theorem test_stall_clears_history : (after (.tachoStall .a) curve).odo.tachoA.periods = []
    ∧ (after (.tachoStall .a) curve).now = 2019821 := by decide +kernel
/-- A pulse 2,000,000 µs after the last one, accepted 20 µs after its edge, comes before the stall (R4). -/
theorem test_pulse_before_the_stall : (after (.tachoPulse 1999870 .a true 20) curve).odo.tachoA.periods.head?
    = some 2000000 ∧ curve.stallDue .a = some 2019821 := by decide +kernel

/-- A window that disagrees by 60,000 µm of 960,000 µm, the fourth in a row (R10, R11). -/
theorem test_fourth_disagreement_doubts : (after .comparisonWindow { curve with odo := { curve.odo with
      disagreements := 3
      tachoA := { curve.odo.tachoA with windowDistance := 900000 }
      tachoB := { curve.odo.tachoB with windowDistance := 960000 } } }).odo.selected = .b := by decide +kernel

/-- The capture of sequence 17 (Table 1-4). -/
theorem test_marker_captured : (after (.markerPulse 1000 [false, true, true, true]) { curve with
      odo := { curve.odo with sequence := 16, position := 1184230 } }).odo.captures = [⟨17, 1184230⟩] := by
  decide +kernel

/-- The onset of section 8.2: nine notices. -/
theorem test_inhibit_centres : (after (.inhibitSet 0 3) curve).cars[7].state = .returning
    ∧ told (after (.inhibitSet 0 3) curve) = .inhibit :: List.replicate 8 .carState := by decide +kernel
theorem test_inhibit_clear_moves_no_car :
    let t := after (.inhibitClear 0 3) (after (.inhibitSet 0 3) curve)
    t.mon.inhibit = false ∧ t.cars[7].state = .returning := by decide +kernel

theorem test_799_periods_fail : (after (.clockWindow 0 799) curve).mon.clockFallback = true
    ∧ (after (.clockWindow 0 800) curve).mon.clockFallback = false := by decide +kernel

theorem test_silence_without_reaction : (after .linkSilentOnset curve).mon.linkSilent = true
    ∧ (after .linkSilentOnset curve).cars[0].state = .tracking := by decide +kernel

/-- The worked demand of car 2 and frame 1 of its trace (Tables 3-3, 4-3). -/
theorem test_frame_of_worked_demand :
    let c := (after .controlFrame curve).cars[2]
    c.target = 346 ∧ c.reason = .law ∧ c.lastLookAhead = some 1256666 ∧ c.theta = 40 ∧ c.omega = 20 := by
  decide +kernel
/-- The commit point is car 0's look-ahead point, and a lead distance of 102,304 cm is below LOW_WATER. -/
theorem test_frame_commits : (after .controlFrame curve).route.commit = some 1261696
    ∧ told (after .controlFrame curve) = [.routeLow] := by decide +kernel

theorem test_poll_opens_first_turn :
    (after .pollCycleExpiry curve).link.cycle = some ⟨allCars, 0, [1, 2, 3, 4, 5, 6, 7], .waiting 20000⟩ := by
  decide +kernel

/-- The line busy until a time. -/
def busyUntil (n : Nat) (s : State) : State := { s with link := { s.link with lineIdleFrom := n } }

theorem test_setpoint_sequence_kept :
    (after (.setpointSend 80) (busyUntil 20100 (polling (.waiting 20000) curve))).link.cycle.map PollCycle.phase
      = some (.sending 20120 ⟨3, true, 0, 0, 1⟩) := by decide +kernel
/-- Two bytes that no reception takes, received at 20,050 and 20,130, delay the setpoint (R115, R117). -/
theorem test_late_bytes_delay_setpoint :
    (after (.setpointSend 0) (after (.statusReception 100 [⟨1, false, 0⟩, ⟨2, false, 70⟩])
      (polling (.waiting 20000) curve))).now = 20150 := by decide +kernel
theorem test_window_opens_after_90 :
    (after .setpointSent (polling (.sending 20120 ⟨3, true, 0, 0, 1⟩) curve)).link.cycle.map PollCycle.phase
      = some (.window 20210 1) := by decide +kernel

theorem test_turn_limit_is_a_miss :
    (after .turnWaitLimit (busyUntil 23981 (polling (.waiting 20000) curve))).link.drives[3].health = 6
    ∧ (after .turnWaitLimit (busyUntil 23980 (polling (.waiting 20000) curve))).link.drives[3].health = 0 := by
  decide +kernel

/-- The 27th miss of Table 6-3. -/
theorem test_27th_miss_isolates :
    let t := after .replyWindowClose (polling (.window 20210 1) (withDrive 3 ⟨1, 156, true, 0, none⟩ curve))
    t.cars[3].state = .isolated ∧ t.link.drives[3].health = 160 ∧ told t = [.carState, .isolated] := by
  decide +kernel

/-- A reply of 5 cdeg. -/
def driveReply (i : CarId) (q state code : Byte) : List RxByte :=
  let body : List Byte := [BitVec.ofNat 8 i.val, q, state, 0, 5, 0, 0, code]
  (body ++ bytes16 (crc16 body)).map (fun b => ⟨b, false, 0⟩)

/-- A LOCKED reply of 5 cdeg that is the sixteenth (Table 6-5). -/
theorem test_probe_passed :
    (after (.statusReception 300 (driveReply 3 1 1 0)) (polling (.window 20210 1)
      (withDrive 3 ⟨1, 0, false, 15, none⟩ (withCar 3 (carIn .probing) curve)))).cars[3].state = .centred := by
  decide +kernel

/-- A reception in progress: car 3's window closes at 19,960, and the line was last busy at 19,940. -/
def receiving (held : List RxByte) : State := busyUntil 19940 (polling (.receiving 18960 1 held) curve)

/-- A reply whose first byte ends as its window closes at 19,960 runs on over the close and a request; one that breaks
off is judged corrupt 20 µs after its last byte (R117, R118). -/
theorem test_reception_outlasts_its_window :
    let reply := driveReply 3 1 1 0
    let begun := after (.identify 9) (after .replyWindowClose
      (after (.statusReception 10 (reply.take 1)) (polling (.window 18960 1) curve)))
    let ended := after (.statusReception 10 (reply.drop 1)) begun
    let broken := after (.statusReception 0 []) begun
    begun.link.cycle.map PollCycle.phase = some (.receiving 18960 1 (reply.take 1))
    ∧ ended.link.drives[3].lastGood = some ⟨5, 0, 0⟩ ∧ ended.now = 20050
    ∧ broken.link.drives[3].health = 6 ∧ broken.now = 19980 := by decide +kernel

/-- The residual of −2,316 in the body of the curve raises car 2's count (Table 7-2). -/
theorem test_residual_counts :
    ((({ curve with odo := { curve.odo with position := 1270030 } } : State).superviseReply 2
      ⟨705, -1210, 0⟩).sup.persistence[2]) = 1 := by decide +kernel

theorem test_received_frame_taken : (after (.controlFrameReceived 100 [0xC3, 0x01, 0x05, 0x21, 0x00, 0x2C, 0x53])
    curve).unit.mode = .draining := by decide +kernel

theorem test_gap_counted : (after .frameGapTimeout { quietLine with
    ctl := { quietLine.ctl with rxBuffer := [0xC3, 4] } }).ctl.crcErrors = 1 := by decide +kernel

theorem test_unknown_kind_answered :
    lastReply (after (.unknownRequest 0x55 9 []) quietLine) = some (0xD5, .unknownRequest, []) := by decide +kernel

theorem test_identify_answers : ((after (.identify 9) quietLine).ctl.replies.map Reply.status) = [.ok] := by
  decide +kernel

/-- Step 4 of Table 9-6; the cars that enter have no turn left in a cycle that runs (R171). -/
theorem test_train_enters_centred : (after (.configureTrain 1 startUpTrain) quietLine).cars[7].state = .centred
    ∧ (told (after (.configureTrain 1 startUpTrain) quietLine)).length = 8
    ∧ (after (.configureTrain 1 startUpTrain) (polling (.window 0 5) quietLine)).link.cycle
      = some ⟨allCars, 3, [], .window 0 5⟩
    ∧ (after (.configureTrain 1 startUpTrain) (polling (.waiting 0) quietLine)).link.cycle = none := by decide +kernel
theorem test_train_bad_offset : lastReply (after (.configureTrain 1
    { startUpTrain with offsets := startUpTrain.offsets.set 3 5030 }) quietLine) = some (0x82, .outOfRange, [4]) := by
  decide +kernel

theorem test_law_raises_generation :
    lastReply (after (.setTiltLaw 1 ⟨600, 300, 1500, 300, 400, 1000⟩) quietLine) = some (0x83, .ok, [0, 1]) := by
  decide +kernel
theorem test_law_accel_not_of_50 :
    lastReply (after (.setTiltLaw 1 ⟨600, 300, 1500, 300, 400, 1010⟩) quietLine)
      = some (0x83, .outOfRange, [5]) := by decide +kernel

theorem test_window_rise_empties_table :
    (after (.setTrainSet 1 ⟨19444, 1500, 5, 3000, 2001, 200000⟩) { curve with
      sup := { curve.sup with mismatches := [⟨1260000, 1⟩] } }).sup.mismatches = [] := by decide +kernel

theorem test_run_without_train : lastReply (after (.setModeRun 1) quietLine) = some (0x85, .noTrain, []) := by
  decide +kernel
theorem test_run_with_position : (after (.setModeRun 1) (inMode .config curve)).unit.mode = .run := by
  decide +kernel
theorem test_drain_begins : lastReply (after (.setModeConfig 1) curve) = some (0x85, .ok, [2]) := by decide +kernel

/-- Step 5 of Table 9-6. -/
theorem test_position_of_start_up :
    (after (.setPosition 1 1217600) (inMode .config curve)).odo.position = 1217600 := by decide +kernel
theorem test_position_behind_rear :
    lastReply (after (.setPosition 1 17599) (inMode .config curve)) = some (0x86, .outOfRange, []) := by
  decide +kernel

/-- The captures of Table 1-4 at 1,186,900. -/
def fixing : State := { curve with
  odo := { curve.odo with
    position := 1186900, sequence := 18
    captures := [⟨15, 1071400⟩, ⟨16, 1130020⟩, ⟨17, 1184230⟩, ⟨18, 1186410⟩] }
  sup := { curve.sup with mismatches := [⟨1100000, 1⟩] } }

/-- Table 1-5. The change goes backward, so a record far behind the rear car stays (R140). -/
theorem test_fix_for_17 : (after (.positionFix 1 17 1184050) fixing).odo.position = 1186720
    ∧ (after (.positionFix 1 17 1184050) fixing).sup.mismatches = [⟨1100000, 1⟩]
    ∧ (after (.positionFix 1 17 1184050) fixing).odo.captures = [⟨18, 1186230⟩] := by decide +kernel
/-- The correction of −730 cm is large (section 1.7). -/
theorem test_large_fix_centres : (after (.positionFix 1 17 1183500) fixing).cars[0].state = .returning
    ∧ (after (.positionFix 1 17 1183500) fixing).odo.position = 1186170 := by decide +kernel

/-- The append of section 2.13 onto the first three segments. -/
def appended : State := after (.routeAppend 1 1292000
    [⟨104, 12000, 0, 1667, 0, 150, 0, none⟩, ⟨105, 40000, 0, 0, 0, 0, 0, some 300⟩,
     ⟨106, 25000, 0, 0, 0, 0, 0, none⟩])
  { curve with route := { curve.route with
      ring := worked.take 3, endChainage := 1292000, commit := some 1258000, lastLead := some 1258000
      lowLatch := true } }

theorem test_append_end_and_free : lastReply appended = some (0x88, .ok, bytes32 1369000 ++ [58])
    ∧ appended.route.lowLatch = true := by decide +kernel
theorem test_append_third_record_bad : lastReply (after (.routeAppend 1 1364000
    [⟨1, 100, 0, 0, 0, 0, 0, none⟩, ⟨2, 100, 0, 0, 0, 0, 0, none⟩, ⟨3, 99, 0, 0, 0, 0, 0, none⟩]) curve)
      = some (0x88, .outOfRange, [2]) := by decide +kernel

/-- Step 2 of section 2.13, the truncate taken first. -/
theorem test_truncate_taken : lastReply (after (.routeTruncate 1 1262000) { appended with
      route := { appended.route with commit := some 1261950 }, ctl := quietLine.ctl })
    = some (0x89, .ok, 4 :: (bytes32 1262000 ++ [62])) := by decide +kernel
/-- The frame taken first: the first allowed boundary is 1,292,000. -/
theorem test_truncate_committed : lastReply (after (.routeTruncate 1 1262000) { appended with
      route := { appended.route with commit := some 1262039 }, ctl := quietLine.ctl })
    = some (0x89, .committed, bytes32 1262039 ++ bytes32 1292000) := by decide +kernel

theorem test_clear_unanchors : (after (.routeClear 1) curve).route.anchored = false
    ∧ lastReply (after (.routeClear 1) curve) = some (0x8A, .ok, [5]) := by decide +kernel
theorem test_confirm_without_doubt : lastReply (after (.routeConfirm 1) curve) = some (0x8B, .wrongState, []) := by
  decide +kernel

/-- Car 2 LATCHED by a drive fault. -/
def latched (active : Bool) : State :=
  withCar 2 { carIn .latched with latchReason := some .driveFault, driveFault := active } curve

theorem test_resume_active_cause : lastReply (after (.resume 1 2) (latched true)) = some (0x8C, .causeActive, []) := by
  decide +kernel
theorem test_resume_released : (after (.resume 1 2) (latched false)).cars[2].state = .centred := by decide +kernel
theorem test_resume_all_counts : lastReply (after (.resumeAll 1) (latched false)) = some (0x8C, .ok, [1]) := by
  decide +kernel

/-- Car 5 ISOLATED, as in the worked probing run (section 6.5). -/
def isolated : State :=
  withDrive 5 ⟨0, 160, true, 0, none⟩ (withCar 5 { carIn .isolated with healthReduce := true } curve)

theorem test_readmit_probes : (after (.readmit 1 5) isolated).cars[5].state = .probing
    ∧ (after (.readmit 1 5) isolated).link.drives[5].health = 0
    ∧ (after (.readmit 1 5) (polling (.window 0 5) isolated)).link.cycle
      = some ⟨allCars, 3, [4, 6, 7], .window 0 5⟩ := by decide +kernel
theorem test_readmit_of_car_in_service :
    lastReply (after (.readmit 1 4) isolated) = some (0x8D, .notIsolated, []) := by decide +kernel

/-- RUN, 8 cars, 1,255,030 = 0x00132676, 44,444 mm/s = 0xAD9C, position valid and gate OPEN with no commit
point (0x0B), end 1,364,000 = 0x0014D020, 5 segments. -/
theorem test_query_train : lastReply (after (.queryTrain 1) curve) = some (0x8E, .ok,
    [1, 8, 0, 0x13, 0x26, 0x76, 0, 0, 0xAD, 0x9C, 0x0B, 0, 0, 0, 0, 0, 0x14, 0xD0, 0x20, 5, 0, 0]) := by
  decide +kernel
theorem test_query_car_out_of_train : lastReply (after (.queryCar 1 8) curve) = some (0x8F, .badCar, []) := by
  decide +kernel
/-- The last record: 205 at 1,304,000 = 0x0013E5C0, length 60,000 = 0x00EA60. -/
theorem test_query_route_last : (lastReply (after (.queryRoute 1 4) curve)).map (fun r => r.2.2.drop 14)
    = some [0x00, 0x13, 0xE5, 0xC0, 0x00, 0xCD, 0x00, 0xEA, 0x60, 0, 0, 0, 0, 0, 0, 0, 0] := by decide +kernel

theorem test_restart_holds_requests : (after (.restart 1) quietLine).ctl.hold = true
    ∧ (after (.queryTrain 2) (after (.restart 1) quietLine)).ctl.fifo = [⟨0x0E, 2, []⟩] := by decide +kernel
theorem test_restart_at_its_reply :
    let t := after .replySent (after (.restart 1) (inMode .config curve))
    t.unit.resetCause = .restart ∧ told t = [.started] ∧ t.ctl.hold = false ∧ t.odo.position = 1255030 := by
  decide +kernel

/-- The first batch of 18 bytes leaves after 391 µs. -/
theorem test_started_batch_sent : (after .batchSent State.reset).ctl.slot = none
    ∧ (after .batchSent State.reset).now = 391 := by decide +kernel

/-- Table 10-5: batch 23 with three notices. -/
theorem test_quiet_timer_forms_batch_23 :
    (after .quietTimerExpiry { queued [.routeLow, .paramApplied, .odometryDoubt] quietLine with
      now := 85000, ctl := { (queued [.routeLow, .paramApplied, .odometryDoubt] quietLine).ctl with
        quiet := some 85000, absolute := some 200000 } }).ctl.slot.map (fun b => (b.sequence, b.notices.length))
      = some (23, 3) := by decide +kernel
theorem test_absolute_timer_marks_while_slot_held :
    let t := after .absoluteTimerExpiry { quietLine with ctl := { quietLine.ctl with
      absolute := some 200000, slot := some startedBatch, transmitter := .sendingBatch 0 } }
    t.ctl.expiryMark = true ∧ t.ctl.absolute = none ∧ t.ctl.slot = some startedBatch := by decide +kernel

theorem test_sync_starts_a_frame :
    (after (.controlLinkByteReceived 5 0xC3) quietLine).ctl.rxBuffer = [0xC3]
      ∧ (after (.controlLinkByteReceived 5 0xC2) quietLine).ctl.rxBuffer = [] := by decide +kernel

/-! ## States that meet the hypotheses of the statements, clause by clause -/

/-- The soundness of the cars from what can be computed. -/
theorem carsSound_of {s : State}
    (h : ∀ i : CarId, (s.cars[i].state = .offline ↔ s.unit.settings.carCount ≤ i.val)
      ∧ (s.unit.mode = .config → s.cars[i].state ≠ .tracking ∧ s.cars[i].state ≠ .returning)
      ∧ (s.cars[i].state ≠ .tracking → s.cars[i].state ≠ .returning → s.cars[i].theta = 0 ∧ s.cars[i].omega = 0)
      ∧ (s.cars[i].state ≠ .tracking → s.cars[i].target = 0 ∧ s.cars[i].reason = .forcedZero)
      ∧ (s.centringActive = true → s.cars[i].state ≠ .tracking)
      ∧ (s.cars[i].state = .latched → s.cars[i].latchReason ≠ none)
      ∧ (s.cars[i].latchReason ≠ none → s.cars[i].state = .returning ∨ s.cars[i].state = .latched))
    (hi : s.mon.inhibit = s.mon.inhibitLevel) (hd : s.unit.mode = .draining → s.drainComplete = false) :
    s.CarsSound :=
  ⟨fun i => let ⟨a, b, c, d, e, f, g⟩ := h i; ⟨a, b, c, d, e, f, g⟩, hi, hd⟩

theorem carsSound_curve : curve.CarsSound :=
  carsSound_of (by decide +kernel) (by decide +kernel) (by decide +kernel)

theorem carsSound_quietLine : quietLine.CarsSound :=
  carsSound_of (by decide +kernel) (by decide +kernel) (by decide +kernel)

theorem segmentSound_worked : ∀ g ∈ worked, g.Sound := by
  intro g hg
  simp only [worked, List.mem_cons, List.not_mem_nil, or_false] at hg
  rcases hg with rfl | rfl | rfl | rfl | rfl <;>
    exact ⟨by decide, by decide, by decide, by decide, by simp⟩

theorem routeSound_curve : curve.route.Sound :=
  ⟨by decide, ⟨rfl, segmentSound_worked _ (by simp [worked]), rfl, segmentSound_worked _ (by simp [worked]), rfl,
    segmentSound_worked _ (by simp [worked]), rfl, segmentSound_worked _ (by simp [worked]), rfl,
    segmentSound_worked _ (by simp [worked]), rfl⟩, by decide, by decide⟩

theorem ready_curve : curve.ready := ⟨rfl, by decide, rfl⟩
theorem ready_quietLine : quietLine.ready := ⟨rfl, by decide, rfl⟩

theorem witness_StepRunsFrontCommand :
    ({ curve with pending := [.controlFrame, .restart 1] } : State).pending = .controlFrame :: [.restart 1] := rfl

/-- The control frame and the poll cycle are due together, the control frame listed first. -/
theorem witness_IdleStepTakesDueTimer :
    (({ quietLine with now := 20000 } : State).timers
        = [] ++ ⟨20000, .controlFrame⟩ :: [⟨20000, .pollCycleExpiry⟩, ⟨250000, .comparisonWindow⟩]
      ∧ ∀ u ∈ [(⟨20000, .pollCycleExpiry⟩ : Timer), ⟨250000, .comparisonWindow⟩], 20000 ≤ u.due)
    ∧ (∀ t ∈ ({ quietLine with now := 19999 } : State).timers, 19999 < t.due) := by decide +kernel

theorem witness_EveryCommandCompletes : ∀ b, Instr.comparisonWindow ≠ .hardwareReset b := by
  intro b h; cases h

/-- Six records, each with a cap. -/
def sixRecords : List SegmentPayload := List.replicate 6 ⟨0xFFFF, 2000000, 1, 0x8000, 0xFFFF, 1, 0x7FFF, some 1000⟩

theorem witness_DecodeOfEncodedRequest : Instr.wf (.routeAppend 0xC3 0xFFFFFFFF sixRecords) = true
    ∧ (encodeRequest (.routeAppend 0xC3 0xFFFFFFFF sixRecords)).isSome
    ∧ Instr.wf (.unknownRequest 0x12 0 []) = true
    ∧ encodeRequest (.unknownRequest 0x12 0 []) = some ⟨0x12, 0, []⟩ := by decide +kernel

theorem witness_ReceivedFrameCarriesItsRequest : Instr.wf (.resume 7 8) = true
    ∧ encodeRequest (.resume 7 8) = some ⟨0x0C, 7, [8]⟩ ∧ curve.ready ∧ curve.ctl.rxBuffer = [] :=
  ⟨by decide, rfl, ready_curve, rfl⟩

/-- Six bytes with a wrong CRC are no frame. -/
theorem no_frame (f : Frame) : f.bytes ≠ 0xC3 :: 0 :: [1, 2, 0, 0] := by
  obtain ⟨kind, tag, payload⟩ := f
  intro h
  simp only [Frame.bytes, frameBytes, syncByte, bytes16, List.cons_append, List.cons.injEq, true_and] at h
  obtain ⟨-, rfl, rfl, h⟩ := h
  match payload, h with
  | [], h => revert h; decide +kernel
  | _ :: rest, h =>
    have := congrArg List.length h
    simp at this

theorem witness_DamagedBytesAreScannedAgain : 120 < (121 : Byte).toNat
    ∧ ((0 : Byte).toNat ≤ 120 ∧ ([1, 2, 0, 0] : List Byte).length = (0 : Byte).toNat + 4
      ∧ ∀ f : Frame, f.bytes ≠ syncByte :: 0 :: [1, 2, 0, 0])
    ∧ (List.replicate 120 (0 : Byte)).length ≤ 120 ∧ (0xC2 : Byte) ≠ 0xC3 :=
  ⟨by decide, ⟨by decide, by decide, no_frame⟩, by decide, by decide⟩

/-- Bytes gathered, the last at 0, in a line that is quiet. -/
def gathering (bytes : List Byte) : State := { quietLine with ctl := { quietLine.ctl with rxBuffer := bytes } }

/-- The next byte 2,000 µs after the last: a LEN over 120, LEN 120, the end of a valid frame and of a damaged one;
and a gap of 2,001 µs. -/
theorem witness_HuntingAndGaps : quietLine.ctl.rxBuffer = []
    ∧ ((gathering [0xC3]).ctl.rxBuffer ++ [121] = 0xC3 :: 121 :: [] ∧ (gathering [0xC3]).now + 2000 ≤ 0 + 2000
      ∧ 120 < (121 : Byte).toNat)
    ∧ ((gathering [0xC3]).ctl.rxBuffer ++ [120] = 0xC3 :: 120 :: [] ∧ (120 : Byte).toNat ≤ 120
      ∧ ([] : List Byte).length < (120 : Byte).toNat + 4)
    ∧ ((gathering [0xC3, 0, 1, 0x11, 0xFD]).ctl.rxBuffer ++ [0xBD] = 0xC3 :: 0 :: [1, 0x11, 0xFD, 0xBD]
      ∧ 0xC3 :: 0 :: [1, 0x11, 0xFD, 0xBD] = Frame.bytes ⟨1, 0x11, []⟩ ∧ ([] : List Byte).length = (0 : Byte).toNat)
    ∧ ((gathering [0xC3, 0, 1, 2, 0]).ctl.rxBuffer ++ [0] = 0xC3 :: 0 :: [1, 2, 0, 0]
      ∧ ∀ f : Frame, 0xC3 :: 0 :: [1, 2, 0, 0] ≠ f.bytes)
    ∧ ((gathering [0xC3, 4]).ctl.rxBuffer ≠ [] ∧ (gathering [0xC3, 4]).ctl.rxLast + 2000 < (gathering [0xC3, 4]).now + 2001
      ∧ (gathering [0xC3, 4]).now ≤ (gathering [0xC3, 4]).ctl.rxLast + 2001) :=
  ⟨rfl, by decide +kernel, by decide +kernel, by decide +kernel, ⟨rfl, fun f => (no_frame f).symm⟩, by decide +kernel⟩

theorem witness_RefusedRequestChangesNothing :
    (requestMeaning (.restart 1) = some (0x11, 1, requestRestart) ∧ curve.ready
      ∧ (requestRestart curve).status ≠ .ok)
    ∧ (isRequestKind 0 = false ∧ isRequestKind 0x12 = false)
    ∧ decodeRequest ⟨0x11, 1, [0]⟩ = .badLength ∧ ((2 : Byte) ≠ 0 ∧ (2 : Byte) ≠ 1) :=
  ⟨⟨rfl, ready_curve, by decide +kernel⟩, by decide, by decide, by decide⟩

/-- Four replies waiting. -/
def fourReplies : List Reply := List.replicate 4 ⟨0x81, 0, .ok, []⟩

theorem witness_BusyRequestWaits : encodeRequest (.identify 1) = some ⟨0x01, 1, []⟩
    ∧ (let s : State := { curve with ctl := { curve.ctl with replies := fourReplies } }
      4 ≤ s.ctl.replies.length ∧ s.ctl.fifo.length < 4)
    ∧ (let s : State := { curve with ctl := { curve.ctl with hold := true, fifo := List.replicate 4 ⟨1, 1, []⟩ } }
      s.ctl.hold = true ∧ 4 ≤ s.ctl.fifo.length) := by decide +kernel

theorem witness_LinkSilenceSetAndEnded :
    (curve.unit.mode ≠ .config ∧ curve.mon.linkSilent = false ∧ curve.CarsSound
      ∧ curve.now ≤ curve.mon.silenceFrom + curve.unit.settings.silenceTime * 1000)
    ∧ quietLine.unit.mode = .config
    ∧ ({ curve with mon := { curve.mon with linkSilent := true } } : State).mon.linkSilent = true :=
  ⟨⟨by decide, rfl, carsSound_curve, by decide⟩, rfl, rfl⟩

/-- A reply of 7 bytes, 152 µs long, on the line. -/
def sendingReply : State := { curve with
  ctl := { curve.ctl with replies := [⟨0x81, 0, .ok, []⟩], transmitter := .sendingReply 19950 } }

theorem witness_ReplySentFreesTheLine : (sendingReply.ctl.transmitter = .sendingReply 19950
      ∧ sendingReply.ctl.replies = ⟨0x81, 0, .ok, []⟩ :: [] ∧ Reply.isRestart ⟨0x81, 0, .ok, []⟩ = false
      ∧ sendingReply.now ≤ 19950 + controlBytesTime (Reply.bytes ⟨0x81, 0, .ok, []⟩).length)
    ∧ sendingReply.ctl.fifo = []
    ∧ (let u : State := { curve with ctl := { curve.ctl with
        replies := List.replicate 3 ⟨0x81, 0, .ok, []⟩, fifo := [⟨0x0E, 2, []⟩, ⟨0x0E, 3, []⟩] } }
      u.ctl.fifo = ⟨0x0E, 2, []⟩ :: [⟨0x0E, 3, []⟩] ∧ u.ctl.hold = false ∧ u.ctl.replies.length < 4) := by
  decide +kernel

theorem witness_BatchSentEmptiesTheSlot : State.reset.ctl.transmitter = .sendingBatch 0
    ∧ State.reset.ctl.slot = some startedBatch ∧ State.reset.now ≤ 0 + controlBytesTime startedBatch.bytes.length
    ∧ State.reset.ctl.notices = []
    ∧ (let s := queued (List.replicate 4 .carState) State.reset
      s.ctl.notices ≠ [] ∧ s.unit.settings.noticeThreshold ≤ s.ctl.notices.length) := by decide +kernel

theorem witness_TimerExpiryFormsABatch :
    let held : State := { State.reset with ctl := { State.reset.ctl with quiet := some 5, absolute := some 5 } }
    let free : State := { queued [.marker] quietLine with
      ctl := { (queued [.marker] quietLine).ctl with quiet := some 0, absolute := some 0 } }
    (held.ctl.quiet = some 5 ∧ held.ctl.absolute = some 5 ∧ held.now ≤ 5 ∧ held.ctl.slot ≠ none)
    ∧ (free.ctl.quiet = some 0 ∧ free.ctl.absolute = some 0 ∧ free.now ≤ 0 ∧ free.ctl.slot = none
      ∧ free.ctl.notices ≠ [])
    ∧ quietLine.ctl.quiet = none ∧ quietLine.ctl.absolute = none := by decide +kernel

theorem witness_PostedNoticeJoinsOrIsLost :
    32 ≤ (queued (List.replicate 32 .marker) quietLine).ctl.notices.length
    ∧ (queued (List.replicate 31 .marker) State.reset).ctl.notices.length < 32
    ∧ (queued (List.replicate 31 .marker) State.reset).ctl.slot ≠ none
    ∧ (quietLine.ctl.slot = none ∧ NoticeKind.urgent .mode = true)
    ∧ (quietLine.unit.settings.noticeThreshold
        ≤ (queued (List.replicate 3 .marker) quietLine).ctl.notices.length + 1)
    ∧ (let s := queued [.marker, .marker] quietLine
      (∀ m ∈ s.ctl.notices ++ [s.notice .marker none 0 0], m.kind.urgent = false) ∧ s.ctl.expiryMark = false
      ∧ s.ctl.slot = none ∧ s.ctl.notices.length + 1 < s.unit.settings.noticeThreshold) := by decide +kernel

/-- The reply of a RESTART on the line in CONFIG. -/
def restarting : State := { inMode .config curve with
  ctl := { curve.ctl with
    replies := [⟨0x91, 1, .ok, []⟩], transmitter := .sendingReply 19950, hold := true } }

theorem witness_RestartInTwoParts : (curve.ready ∧ curve.unit.mode ≠ .config)
    ∧ (quietLine.ready ∧ quietLine.unit.mode = .config)
    ∧ (restarting.ctl.transmitter = .sendingReply 19950 ∧ restarting.ctl.replies = ⟨0x91, 1, .ok, []⟩ :: []
      ∧ restarting.ctl.hold = true ∧ restarting.unit.mode = .config
      ∧ restarting.now ≤ 19950 + controlBytesTime (Reply.bytes ⟨0x91, 1, .ok, []⟩).length) :=
  ⟨⟨ready_curve, by decide⟩, ⟨ready_quietLine, rfl⟩, by decide +kernel⟩

theorem lastPulse_curve {n last : Nat} (hn : 19800 < n) (h : (curve.tacho .a).last = some last) : last < n := by
  cases h
  exact hn

/-- On channel A at 20,000: a level without a low before it, one of 19 µs, and one of 20 µs. -/
theorem witness_PulseClosesAPeriod :
    (¬ (20 ≤ curve.now + 50 ∧ (false = true ∨ (curve.tacho .a).high = false)
      ∧ ∀ last, (curve.tacho .a).last = some last → last < curve.now + 50 - 20))
    ∧ ((19 ≤ curve.now + 50 ∧ (true = true ∨ (curve.tacho .a).high = false)
      ∧ ∀ last, (curve.tacho .a).last = some last → last < curve.now + 50 - 19) ∧ 19 < 20)
    ∧ (20 ≤ curve.now + 50 ∧ (true = true ∨ (curve.tacho .a).high = false)
      ∧ (∀ last, (curve.tacho .a).last = some last → last < curve.now + 50 - 20) ∧ 20 ≤ 20 ∧ Tacho.b ≠ .a
      ∧ Tacho.b ≠ curve.odo.selected) :=
  ⟨fun h => absurd h.2.1 (by decide), ⟨⟨by decide, .inl rfl, fun _ => lastPulse_curve (by decide)⟩, by decide⟩,
    by decide, .inl rfl, fun _ => lastPulse_curve (by decide), by decide, by decide, by decide⟩

theorem witness_PulseMovesPosition : 20 ≤ curve.now + 50 ∧ curve.odo.selected = .a
    ∧ (∀ last, (curve.tacho .a).last = some last → last < curve.now + 50 - 20) ∧ 20 ≤ 20
    ∧ curve.odo.positionValid = true :=
  ⟨by decide, rfl, fun _ => lastPulse_curve (by decide), by decide, rfl⟩

theorem witness_SpeedFallsUntilTheStall :
    (fourPeriods.periods = [636, 636, 636, 636] ∧ fourPeriods.last = some 10000 ∧ 2010020 ≤ 10000 + 2000020
      ∧ 10000 + 2000021 ≤ 2010021)
    ∧ ((∀ p ∈ fourPeriods.periods, 1 ≤ p) ∧ 10500 ≤ 11000)
    ∧ TachoChannel.reset.periods.length < 4
    ∧ ((curve.tacho .a).last = some 19800 ∧ curve.now ≤ 19800 + 2000021) ∧ (curve.tacho .b).last = none := by
  decide +kernel

theorem witness_ComparisonWindowTested : ({ curve with now := 250000 } : State).now ≤ curve.odo.windowStart + 250000 := by
  decide

theorem witness_MarkerCapturedOnce : curve.odo.positionValid = true ∧ quietLine.odo.positionValid = false := by
  decide

theorem witness_PositionSet : (curve.ready ∧ curve.unit.mode ≠ .config)
    ∧ ((inMode .config curve).ready ∧ (inMode .config curve).unit.mode = .config
      ∧ (17599 : BitVec 32).toNat < (inMode .config curve).unit.settings.rearOffset
      ∧ (inMode .config curve).unit.settings.rearOffset ≤ (17600 : BitVec 32).toNat) :=
  ⟨⟨ready_curve, by decide⟩, ready_curve, rfl, by decide +kernel, by decide +kernel⟩

theorem witness_PositionFixApplied : fixing.ready ∧ (∀ e ∈ fixing.odo.captures, e.sequence ≠ 14) ∧ fixing.CarsSound
    ∧ (∀ e ∈ [(⟨15, 1071400⟩ : Capture), ⟨16, 1130020⟩], e.sequence ≠ 17)
    ∧ fixing.odo.captures = [⟨15, 1071400⟩, ⟨16, 1130020⟩] ++ ⟨17, 1184230⟩ :: [⟨18, 1186410⟩]
    ∧ fixing.unit.settings.rearOffset ≤ 4294967295 :=
  ⟨⟨rfl, by decide, rfl⟩, by decide +kernel,
    carsSound_of (by decide +kernel) (by decide +kernel) (by decide +kernel), by decide, rfl, by decide +kernel⟩

/-- One record split in every way is itself. -/
theorem each_of_one {P : Nat → SegmentPayload → Prop} {anchor : Nat} {x : SegmentPayload} (h : P anchor x) :
    ∀ a r b, [x] = a ++ r :: b → P (anchor + (a.map (fun r => r.length.toNat)).sum) r := by
  rintro (_ | ⟨_, a⟩) r b e
  · simp only [List.nil_append, List.cons.injEq] at e
    exact e.1 ▸ h
  · simp at e

/-- The shortest record, and one too short. -/
def shortest : SegmentPayload := ⟨1, 100, 0, 0, 0, 0, 0, none⟩
def tooShort : SegmentPayload := ⟨1, 99, 0, 0, 0, 0, 0, none⟩

/-- A ring of 64 segments, every place taken. -/
def fullRoute : State := { curve with route := { curve.route with
  ring := List.replicate 64 ⟨205, 1304000, 60000, 0, 0, 0, 0, false, none⟩ } }

theorem shortest_inRange : shortest.InRange (1364000 : BitVec 32).toNat :=
  ⟨by decide, by decide, by decide, .inl rfl, by rintro c ⟨⟩, by decide⟩

theorem witness_AppendJudgedInOrder : curve.ready ∧ 6 < (List.replicate 7 shortest).length
    ∧ ({ curve with route := { curve.route with doubt := true } } : State).route.doubt = true
    ∧ (curve.route.doubt = false ∧ curve.route.anchored = true
      ∧ (1364001 : BitVec 32).toNat ≠ curve.route.endChainage)
    ∧ ([shortest, tooShort] = [shortest] ++ tooShort :: []
      ∧ (∀ a r b, [shortest] = a ++ r :: b →
        r.InRange ((1364000 : BitVec 32).toNat + (a.map (fun r => r.length.toNat)).sum))
      ∧ ¬ tooShort.InRange ((1364000 : BitVec 32).toNat + ([shortest].map (fun r => r.length.toNat)).sum)
      ∧ (1364000 : BitVec 32).toNat = curve.route.endChainage)
    ∧ (fullRoute.route.doubt = false ∧ (1364000 : BitVec 32).toNat = fullRoute.route.endChainage
      ∧ 64 < fullRoute.route.ring.length + [shortest].length) :=
  ⟨ready_curve, by decide, rfl, by decide,
    ⟨rfl, each_of_one (P := fun n r => r.InRange n) shortest_inRange, fun h => absurd h.length.1 (by decide),
      by decide⟩, by decide +kernel⟩

theorem witness_AppendCarriedOut : (curve.ready ∧ [shortest] ≠ [] ∧ [shortest].length ≤ 6
      ∧ curve.route.doubt = false ∧ (1364000 : BitVec 32).toNat = curve.route.endChainage
      ∧ (∀ a r b, [shortest] = a ++ r :: b →
        r.InRange ((1364000 : BitVec 32).toNat + (a.map (fun r => r.length.toNat)).sum))
      ∧ curve.route.ring.length + [shortest].length ≤ 64 ∧ curve.odo.positionValid = true)
    ∧ (quietLine.ready ∧ quietLine.route.anchored = false ∧ quietLine.odo.positionValid = false) :=
  ⟨⟨ready_curve, by decide, by decide, rfl, by decide,
      each_of_one (P := fun n r => r.InRange n) shortest_inRange, by decide, rfl⟩,
    ready_quietLine, rfl, rfl⟩

/-- A commit point at 1,262,039. -/
def committed : State := { curve with route := { curve.route with commit := some 1262039 } }

theorem witness_RouteWithdrawnOrConfirmed : committed.ready
    ∧ ¬ (committed.route.anchored = true ∧ ((∃ g ∈ committed.route.ring, g.start = (1262001 : BitVec 32).toNat)
        ∨ (1262001 : BitVec 32).toNat = committed.route.endChainage))
    ∧ (committed.route.anchored = true ∧ (∃ g ∈ committed.route.ring, g.start = (1262000 : BitVec 32).toNat)
      ∧ committed.route.commit = some 1262039 ∧ (1262000 : BitVec 32).toNat < 1262039 ∧ committed.route.Sound)
    ∧ ((∃ g ∈ committed.route.ring, g.start = (1292000 : BitVec 32).toNat)
      ∧ ∀ c, committed.route.commit = some c → c ≤ (1292000 : BitVec 32).toNat)
    ∧ committed.route.doubt = false
    ∧ ({ committed with route := { committed.route with doubt := true } } : State).route.doubt = true := by
  refine ⟨ready_curve, by decide +kernel, ⟨rfl, by decide +kernel, rfl, by decide, ?_⟩, ⟨by decide +kernel, ?_⟩, rfl, rfl⟩
  · exact ⟨routeSound_curve.fits, routeSound_curve.chained, routeSound_curve.bounded, by decide +kernel⟩
  · intro c h
    cases h
    decide

theorem witness_LookupFindsTheOneSegment : quietLine.route.anchored = false ∧ curve.route.Sound ∧ curve.route.anchored = true
    ∧ curve.route.governing 1250000 = some ⟨102, 1250000, 12000, 0, 1667, 0, 150, false, none⟩
    ∧ curve.route.governing 1364000 = none :=
  ⟨rfl, routeSound_curve, rfl, by decide +kernel, by decide +kernel⟩

theorem witness_RetirementDropsPassedSegments : curve.route.Sound ∧ curve.odo.positionValid = true
    ∧ quietLine.route.Sound ∧ quietLine.odo.positionValid = false :=
  ⟨routeSound_curve, rfl, ⟨by decide, rfl, by decide, by decide⟩, rfl⟩

theorem witness_LeadPointEvaluated : quietLine.route.anchored = false ∧ curve.route.anchored = true := by decide

theorem witness_ReportsAnswered : curve.ready ∧ ((7 : CarId).val = (7 : Byte).toNat
      ∧ (7 : CarId).val < curve.unit.settings.carCount)
    ∧ curve.unit.settings.carCount ≤ (8 : Byte).toNat ∧ (63 : Byte).toNat ≤ 63 ∧ 63 < (64 : Byte).toNat :=
  ⟨ready_curve, by decide +kernel⟩

theorem witness_GateChangesAtFramesAlone : (∃ t, exec .controlFrame curve = .next t)
    ∧ (∃ t, exec .replySent restarting = .next t ∧ Instr.replySent ≠ .controlFrame) :=
  ⟨⟨_, rfl⟩, _, rfl, by decide⟩

theorem witness_DeadBandApplied : (300 : Int).natAbs ≤ 300 ∧ ((300 : Nat) : Int) < 301
    ∧ (-301 : Int) < -((300 : Nat) : Int) := by decide

/-- The train of the worked demand under CLOCK_FALLBACK, its segment 102 capped at 200. -/
def capped : State := { curve with
  mon := { curve.mon with clockFallback := true }
  route := { curve.route with
    ring := worked.map (fun g => if g.segId = 102 then { g with cap := some 200 } else g) } }

/-- Car 2's demand, the same under a lower TILT_MAX, under CLOCK_FALLBACK and a cap, and no valid position. -/
theorem witness_TargetHeldWithinTheLimit :
    let g : Segment := ⟨102, 1250000, 12000, 0, 1667, 0, 150, false, none⟩
    let p := min 4294967295 (curve.odo.position - curve.unit.settings.offsets[(2 : CarId)]
      + 44444 * curve.cars[(2 : CarId)].law.leadTime / 10000)
    let raw := (effectiveAcceleration (lateralAcceleration 44444 (g.curvature p) (g.cant p)) 300 * 600 * 5843).tdiv
      10000000
    (curve.odo.positionValid = true ∧ curve.gateOpen = true ∧ curve.route.governing p = some g
      ∧ raw = 346 ∧ raw.natAbs ≤ (curve.demand 44444 2).limit)
    ∧ (let s : State := { curve with unit := { curve.unit with
          settings := { curve.unit.settings with tiltMax := 345 } } }
      (s.demand 44444 2).limit < raw.natAbs ∧ s.route.governing p = some g)
    ∧ (capped.mon.clockFallback = true ∧ (capped.route.governing p).bind Segment.cap = some 200
      ∧ (capped.demand 44444 2).limit = 200)
    ∧ quietLine.odo.positionValid = false
    ∧ curve.route.governing 4294967295 = none
    ∧ ({ curve with gateOpen := false } : State).gateOpen = false := by decide +kernel

/-- At rest on the target; moving away from it; the stopping distance of 400 just met and just not met; an arrival;
and a step past the bound. -/
theorem witness_ProfileStepBounded : ((-800 : Int).natAbs ≤ 800 ∧ (400 : Int).natAbs ≤ defaultLaw.omegaMax)
    ∧ (346 * 100 - 34600 : Int) = 0
    ∧ ((-20 : Int) ≠ 0 ∧ ¬ ((0 < (-20 : Int) ∧ 0 < (346 * 100 - 0 : Int)) ∨ ((-20 : Int) < 0 ∧ (346 * 100 - 0 : Int) < 0)))
    ∧ ((0 < (80 : Int) ∧ 0 < (346 * 100 - 34200 : Int)) ∧ (346 * 100 - 34200 : Int).natAbs ≤ 80 * 80 / 20 + 80)
    ∧ ((0 < (80 : Int) ∧ 0 < (346 * 100 - 34199 : Int)) ∧ 80 * 80 / 20 + 80 < (346 * 100 - 34199 : Int).natAbs)
    ∧ (0 < (346 * 100 - 34520 : Int) ∧ 346 * 100 ≤ (34520 + 2 * (80 - 20) : Int))
    ∧ ((700 * 100 - 79990 : Int) < 0 ∧ ¬ (79990 + 2 * (100 - 20) : Int) ≤ 700 * 100
      ∧ (800 * 100 : Int) < 79990 + 2 * (100 - 20)) := by decide

theorem witness_InterpolationAndRounding :
    (let g : Segment := ⟨102, 1250000, 12000, 0, 1667, 0, 150, false, none⟩;
      g.start ≤ 1250000 ∧ g.start ≤ 1261999 ∧ 1261999 < g.start + g.length ∧ 1250000 = g.start)
    ∧ 2 * ((34550 : Int) - 100 * roundCdeg 34550).natAbs = 100 ∧ (-80000 : Int).natAbs ≤ 800 * 100 := by decide

/-- The train with car 0 ISOLATED. -/
def firstIsolated : State := withCar 0 (carIn .isolated) curve

theorem witness_ControlFrameMovesEachCar : curve.now ≤ curve.frameStart + 20000
    ∧ (curve.CarsSound ∧ curve.route.anchored = true ∧ curve.odo.positionValid = true
      ∧ 0 ∈ curve.configured.filter (fun i => curve.cars[i].state.computed))
    ∧ (firstIsolated.CarsSound ∧ firstIsolated.configured.filter (fun i => firstIsolated.cars[i].state.computed) ≠ []
      ∧ 0 ∉ firstIsolated.configured.filter (fun i => firstIsolated.cars[i].state.computed))
    ∧ (quietLine.CarsSound ∧ quietLine.route.anchored = false) :=
  ⟨by decide, ⟨carsSound_curve, rfl, rfl, by decide +kernel⟩,
    ⟨carsSound_of (by decide +kernel) (by decide +kernel) (by decide +kernel), by decide +kernel, by decide +kernel⟩,
    carsSound_quietLine, rfl⟩

theorem carsSound_latched (active : Bool) : (latched active).CarsSound := by
  cases active <;> exact carsSound_of (by decide +kernel) (by decide +kernel) (by decide +kernel)

theorem witness_ResumeReleasesLatchedCars : ((latched true).ready ∧ (latched true).CarsSound)
    ∧ ((8 : Byte) ≠ 0xFF ∧ (latched true).unit.settings.carCount ≤ (8 : Byte).toNat)
    ∧ ((2 : CarId).val = (2 : Byte).toNat ∧ (2 : CarId).val < (latched true).unit.settings.carCount)
    ∧ curve.cars[(2 : CarId)].state ≠ .latched
    ∧ ((latched true).cars[(2 : CarId)].state = .latched
      ∧ (latched true).cars[(2 : CarId)].latchReason = some .driveFault
      ∧ (latched true).cars[(2 : CarId)].driveFault = true)
    ∧ ((latched false).ready ∧ (latched false).CarsSound ∧ (latched false).cars[(2 : CarId)].state = .latched
      ∧ (latched false).cars[(2 : CarId)].driveFault = false) :=
  ⟨⟨⟨rfl, by decide, rfl⟩, carsSound_latched true⟩, by decide +kernel, by decide +kernel, by decide +kernel,
    by decide +kernel, ⟨rfl, by decide, rfl⟩, carsSound_latched false, by decide +kernel, by decide +kernel⟩

/-- The train at rest in CONFIG. -/
def parked : State :=
  { inMode .config curve with cars := Vector.replicate 8 (carIn .centred) }

theorem carsSound_parked : parked.CarsSound :=
  carsSound_of (by decide +kernel) (by decide +kernel) (by decide +kernel)

theorem carsSound_draining : (inMode .draining curve).CarsSound :=
  carsSound_of (by decide +kernel) (by decide +kernel) (by decide +kernel)

theorem witness_ModeSet : (quietLine.ready ∧ quietLine.CarsSound ∧ quietLine.unit.mode = .config
      ∧ quietLine.unit.settings.carCount = 0)
    ∧ (let s : State := { parked with odo := Odometry.reset }
      s.ready ∧ s.CarsSound ∧ s.unit.mode = .config ∧ s.unit.settings.carCount ≠ 0 ∧ s.odo.positionValid = false)
    ∧ (parked.ready ∧ parked.CarsSound ∧ parked.unit.mode = .config ∧ parked.unit.settings.carCount ≠ 0
      ∧ parked.odo.positionValid = true)
    ∧ (curve.ready ∧ curve.CarsSound ∧ curve.unit.mode = .run
      ∧ ¬ ∀ i : CarId, i.val < curve.unit.settings.carCount → curve.cars[i].state.drained = true)
    ∧ (let s := inMode .run parked
      s.ready ∧ s.CarsSound ∧ ∀ i : CarId, i.val < s.unit.settings.carCount → s.cars[i].state.drained = true)
    ∧ ((inMode .draining curve).ready ∧ (inMode .draining curve).CarsSound) :=
  ⟨⟨ready_quietLine, carsSound_quietLine, rfl, rfl⟩,
    ⟨⟨rfl, by decide, rfl⟩, carsSound_of (by decide +kernel) (by decide +kernel) (by decide +kernel), rfl,
      by decide +kernel, rfl⟩,
    ⟨⟨rfl, by decide, rfl⟩, carsSound_parked, rfl, by decide +kernel, rfl⟩,
    ⟨ready_curve, carsSound_curve, rfl, by decide +kernel⟩,
    ⟨⟨rfl, by decide, rfl⟩, carsSound_of (by decide +kernel) (by decide +kernel) (by decide +kernel),
      by decide +kernel⟩,
    ⟨rfl, by decide, rfl⟩, carsSound_draining⟩

theorem startUpTrain_good (n : Nat) : startUpTrain.FieldGood n := by
  unfold TrainPayload.FieldGood
  split <;> first | trivial | (unfold TrainPayload.Follows; decide)

/-- The start-up train, and the same with an offset at that of the car before. -/
theorem witness_TrainConfigured : (curve.ready ∧ curve.unit.mode ≠ .config)
    ∧ (parked.ready ∧ parked.unit.mode = .config ∧ ∀ n, startUpTrain.FieldGood n)
    ∧ (let s := polling (.waiting 0) quietLine
      s.ready ∧ s.unit.mode = .config ∧ s.cars[(3 : CarId)].state = .offline)
    ∧ (let p := { startUpTrain with offsets := startUpTrain.offsets.set 3 5030 }
      ¬ p.FieldGood 4 ∧ ∀ m, m < 4 → p.FieldGood m) := by
  refine ⟨⟨ready_curve, by decide⟩, ⟨⟨rfl, by decide, rfl⟩, rfl, startUpTrain_good⟩,
    ⟨⟨rfl, by decide, rfl⟩, rfl, by decide +kernel⟩, ?_, fun m hm => ?_⟩
  · exact fun h => absurd (h (by decide)).1 (by decide)
  · unfold TrainPayload.FieldGood
    split <;> first | trivial | omega | (unfold TrainPayload.Follows; decide)

theorem witness_LawStagedAndTaken : curve.ready
    ∧ (let p : LawPayload := ⟨600, 300, 1500, 300, 400, 1010⟩
      ¬ p.FieldGood 5 ∧ ∀ m, m < 5 → p.FieldGood m)
    ∧ ∀ n, LawPayload.FieldGood ⟨1000, 2000, 3000, 1000, 800, 4000⟩ n := by
  refine ⟨ready_curve, ⟨fun h => absurd h.2.2 (by decide), fun m hm => ?_⟩, fun n => ?_⟩
  · unfold LawPayload.FieldGood
    split <;> trivial
  · unfold LawPayload.FieldGood
    split <;> trivial

theorem witness_TrainSetReplaced : curve.ready
    ∧ (let p : TrainSetPayload := ⟨50000, 4000, 16, 10000, 10000, 9999⟩
      ¬ p.FieldGood 5 ∧ ∀ m, m < 5 → p.FieldGood m)
    ∧ ∀ n, TrainSetPayload.FieldGood ⟨50000, 4000, 16, 10000, 10000, 1000000⟩ n := by
  refine ⟨ready_curve, ⟨fun h => absurd h.1 (by decide), fun m hm => ?_⟩, fun n => ?_⟩
  · unfold TrainSetPayload.FieldGood
    split <;> trivial
  · unfold TrainSetPayload.FieldGood
    split <;> trivial

theorem witness_PollCycleStartsOrOverruns :
    (({ curve with now := 20000 } : State).now ≤ curve.link.pollStart + 20000 ∧ curve.link.cycle = none)
    ∧ (polling (.waiting 19000) curve).link.cycle = some ⟨allCars, 3, [4, 5, 6, 7], .waiting 19000⟩ := by
  decide +kernel

/-- A turn at 16,000 with the line idle just in time and just too late, a setpoint on the line, no cycle, and bytes
past a window. -/
theorem witness_SetpointComposedAndSent :
    (let s := busyUntil 19980 (polling (.waiting 16000) curve);
      s.link.cycle = some ⟨allCars, 3, [4, 5, 6, 7], .waiting 16000⟩
      ∧ max (16000 + 3980) s.link.lineIdleFrom + 20 ≤ 16000 + 4000 ∧ s.now ≤ max (16000 + 3980) s.link.lineIdleFrom + 20)
    ∧ 16000 + 4000 < max (16000 + 3981) curve.link.lineIdleFrom + 20
    ∧ (let s := polling (.sending 19860 ⟨3, true, 0, 0, 1⟩) curve;
      s.link.cycle = some ⟨allCars, 3, [4, 5, 6, 7], .sending 19860 ⟨3, true, 0, 0, 1⟩⟩ ∧ s.now ≤ 19860 + 90)
    ∧ curve.link.cycle = none
    ∧ ((polling (.window 19000 1) curve).link.cycle = some ⟨allCars, 3, [4, 5, 6, 7], .window 19000 1⟩
      ∧ 19000 + 1000 < curve.now + 51) := by decide +kernel

/-- Ends of transactions of car 3: in service with a counter of 0, at 154, and PROBING. -/
theorem witness_FailedTransactionCounted :
    ((busyUntil 19981 (polling (.waiting 16000) curve)).link.cycle
        = some ⟨allCars, 3, [4, 5, 6, 7], .waiting 16000⟩
      ∧ 16000 + 4000 < max 16000 (busyUntil 19981 curve).link.lineIdleFrom + 20 ∧ curve.now ≤ 16000 + 4000)
    ∧ ((polling (.window 19000 1) curve).link.cycle = some ⟨allCars, 3, [4, 5, 6, 7], .window 19000 1⟩
      ∧ curve.now ≤ 19000 + 1000
      ∧ curve.cars[(3 : CarId)].state.polled = true ∧ curve.cars[(3 : CarId)].state ≠ .probing
      ∧ curve.link.drives[(3 : CarId)].health + 6 < 160)
    ∧ (let reply := driveReply 3 1 1 0
      (receiving (reply.take 1)).link.cycle = some ⟨allCars, 3, [4, 5, 6, 7], .receiving 18960 1 (reply.take 1)⟩
      ∧ (receiving (reply.take 1)).ReceptionEnds ⟨allCars, 3, [4, 5, 6, 7], .receiving 18960 1 (reply.take 1)⟩
        (.statusReception 10 []) 1 (reply.take 1) 19960 19940
      ∧ judgeReception 3 1 (reply.take 1) = .corrupt)
    ∧ 160 ≤ (withDrive 3 ⟨1, 154, true, 0, none⟩ curve).link.drives[(3 : CarId)].health + 6
    ∧ (withCar 3 (carIn .probing) curve).cars[(3 : CarId)].state = .probing
    ∧ (withCar 3 (carIn .isolated) curve).cars[(3 : CarId)].state.polled = false
    ∧ ((inMode .draining curve).unit.mode = .draining) :=
  ⟨by decide +kernel, by decide +kernel, ⟨rfl, ⟨10, 18960, .inr (.inl ⟨rfl, rfl, rfl, by decide, rfl⟩)⟩, by decide +kernel⟩,
    by decide +kernel⟩

/-- A first byte that ends as the window closes; a second just within 20 µs of idle line, and one just not; a close and a
run cut between two bytes; and no reception at all. -/
theorem witness_ReceptionGoodExactly :
    let reply := driveReply 3 1 1 0
    ((polling (.window 18960 1) curve).link.cycle = some ⟨allCars, 3, [4, 5, 6, 7], .window 18960 1⟩
      ∧ curve.now + 10 ≤ 18960 + 1000)
    ∧ (let s := receiving (reply.take 8)
      s.link.cycle = some ⟨allCars, 3, [4, 5, 6, 7], .receiving 18960 1 (reply.take 8)⟩
      ∧ (reply.take 8).length < 9 ∧ s.now + 19 < s.link.lineIdleFrom + 30 ∧ s.link.lineIdleFrom + 30 ≤ s.now + 20
      ∧ ∃ t, exec (.statusReception 0 []) s = .next t)
    ∧ (reply.take 1 ≠ [] ∧ ∃ t, exec (.statusReception 10 (reply.take 1)) (polling (.window 18960 1) curve) = .next t)
    ∧ curve.link.cycle = none ∧ (reply.take 9).length < 10 :=
  ⟨by decide, ⟨rfl, by decide, by decide, by decide, _, rfl⟩, ⟨by decide, _, rfl⟩, rfl, by decide⟩

/-- Good replies to car 3: LOCKED and FAULT of a car in service, by the tenth byte and as one run, and of a car
ISOLATED since. -/
theorem witness_GoodReplyApplied :
    (∀ state : Byte, state = 1 ∨ state = 2 → let reply := driveReply 3 1 state 7
      (receiving (reply.take 9)).ReceptionEnds ⟨allCars, 3, [4, 5, 6, 7], .receiving 18960 1 (reply.take 9)⟩
        (.statusReception 10 (reply.drop 9)) 1 reply 19960 19960
      ∧ (polling (.window 18960 1) curve).ReceptionEnds ⟨allCars, 3, [4, 5, 6, 7], .window 18960 1⟩
        (.statusReception 10 reply) 1 reply 20050 20050
      ∧ judgeReception 3 1 reply = .good state ⟨5, 0, 7⟩)
    ∧ (curve.cars[(3 : CarId)].state.polled = true ∧ curve.cars[(3 : CarId)].state ≠ .probing ∧ (1 : Byte) ≠ 2)
    ∧ (withCar 3 (carIn .isolated) curve).cars[(3 : CarId)].state.polled = false := by
  refine ⟨fun state h => ?_, by decide +kernel⟩
  rcases h with rfl | rfl <;>
    exact ⟨⟨10, 18960, .inl ⟨_, _, rfl, rfl, by decide +kernel, by decide +kernel, by decide +kernel,
        by decide +kernel, rfl⟩⟩,
      ⟨10, 18960, .inr (.inr ⟨_, _, rfl, rfl, by decide +kernel, by decide +kernel, by decide +kernel,
        rfl, by decide +kernel, rfl⟩)⟩, by decide +kernel⟩

theorem witness_DriveFaultFollowsReplies : (curve.CarsSound ∧ curve.cars[(2 : CarId)].driveFault = false)
    ∧ ((latched true).CarsSound ∧ (latched true).cars[(2 : CarId)].driveFault = true)
    ∧ ∀ st : CarState, st ∈ [.tracking, .centred, .returning, .latched, .offline, .isolated, .probing] →
      ∀ reason : Option LatchReason, reason ∈ [none, some .supervision, some .driveFault] →
        let s := withCar 2 { carIn st with latchReason := reason } curve
        s.cars[(2 : CarId)].state = st ∧ s.cars[(2 : CarId)].latchReason = reason :=
  ⟨⟨carsSound_curve, by decide +kernel⟩, ⟨carsSound_latched true, by decide +kernel⟩, by decide +kernel⟩

theorem carsSound_isolated : isolated.CarsSound :=
  carsSound_of (by decide +kernel) (by decide +kernel) (by decide +kernel)

/-- Car 5 PROBING with fifteen LOCKED replies. -/
def probing : State := withDrive 5 ⟨0, 0, false, 15, none⟩ (withCar 5 (carIn .probing) curve)

theorem witness_CarReadmittedAndProbed : (isolated.ready ∧ isolated.CarsSound
      ∧ isolated.unit.settings.carCount ≤ (8 : Byte).toNat)
    ∧ ((5 : CarId).val = (5 : Byte).toNat ∧ (5 : CarId).val < isolated.unit.settings.carCount
      ∧ isolated.cars[(5 : CarId)].state = .isolated ∧ isolated.cars[(4 : CarId)].state ≠ .isolated
      ∧ (polling (.window 0 5) isolated).link.cycle = some ⟨allCars, 3, [4, 5, 6, 7], .window 0 5⟩)
    ∧ (probing.CarsSound ∧ probing.cars[(5 : CarId)].state = .probing
      ∧ ((1 : Byte) = 1 ∧ (50 : Int).natAbs ≤ 50 ∧ 15 ≤ probing.link.drives[(5 : CarId)].probing)
      ∧ ¬ ((2 : Byte) = 1 ∧ (50 : Int).natAbs ≤ 50) ∧ ¬ ((1 : Byte) = 1 ∧ (51 : Int).natAbs ≤ 50)) :=
  ⟨⟨⟨rfl, by decide, rfl⟩, carsSound_isolated, by decide +kernel⟩, by decide +kernel,
    carsSound_of (by decide +kernel) (by decide +kernel) (by decide +kernel), by decide +kernel⟩

/-- Car 2 in the body of the curve, and where it is not judged. -/
theorem witness_ReplySupervised :
    let body : Segment := ⟨103, 1262000, 30000, 1667, 1667, 150, 150, false, none⟩
    let s : State := { curve with odo := { curve.odo with position := 1270030 } }
    quietLine.odo.positionValid = false
    ∧ ({ s with sup := { s.sup with suspended := s.sup.suspended.set 2 true } } : State).sup.suspended[(2 : CarId)] = true
    ∧ (curve.route.governing (curve.carPosition 2) = some ⟨102, 1250000, 12000, 0, 1667, 0, 150, false, none⟩
      ∧ curve.carPosition 2 < 1250000 + curve.unit.trainSet.blankDist)
    ∧ (s.odo.positionValid = true ∧ s.gateOpen = true ∧ s.sup.suspended[(2 : CarId)] = false
      ∧ s.route.governing (s.carPosition 2) = some body ∧ body.exempt = false
      ∧ body.start + s.unit.trainSet.blankDist ≤ s.carPosition 2) := by decide +kernel

/-- The record of car 0 at 1,403,406, which car 1 matches within the window (Table 7-5). -/
def oneMismatch : State := { curve with sup := { curve.sup with mismatches := [⟨1403406, 0⟩] } }

theorem witness_MismatchConfirmed : oneMismatch.CarsSound
    ∧ (oneMismatch.sup.mismatches = [] ++ ⟨1403406, 0⟩ :: [] ∧ (0 : CarId) ≠ 1
      ∧ max 1403406 1405406 - min 1403406 1405406 ≤ oneMismatch.unit.trainSet.matchWindow
      ∧ oneMismatch.route.doubt = false)
    ∧ (∀ m ∈ oneMismatch.sup.mismatches, m.car = 0)
    ∧ (∀ m ∈ oneMismatch.sup.mismatches,
        ¬ max m.chainage 1405407 - min m.chainage 1405407 ≤ oneMismatch.unit.trainSet.matchWindow) :=
  ⟨carsSound_of (by decide +kernel) (by decide +kernel) (by decide +kernel), by decide +kernel, by decide +kernel,
    by decide +kernel⟩

theorem witness_InhibitFollowsTheFilter : 1 ≤ 3 ∧ curve.CarsSound ∧ curve.mon.inhibitLevel = false
    ∧ curve.mon.inhibitRun + 2 < 3 ∧ 3 ≤ curve.mon.inhibitRun + 3
    ∧ (let s : State := { inMode .run parked with mon := { curve.mon with inhibitLevel := true, inhibit := true } }
      s.CarsSound ∧ s.mon.inhibitLevel = true) :=
  ⟨by decide, carsSound_curve, rfl, by decide, by decide,
    carsSound_of (by decide +kernel) (by decide +kernel) (by decide +kernel), rfl⟩

theorem witness_ClockFallbackIsLatched : (curve.mon.clockFallback = false ∧ 799 < 800) ∧ 800 ≤ 800
    ∧ (let s : State := { curve with mon := { curve.mon with clockFallback := true } }
      (∃ t, exec .comparisonWindow s = .next t) ∧ s.mon.clockFallback = true) :=
  ⟨by decide, by decide, ⟨_, rfl⟩, rfl⟩

/-- A step that takes the control frame. -/
def framing : State := { curve with pending := [.controlFrame] }

theorem witness_RouteQueueStaysSound : (∃ t, step framing = .next t) ∧ framing.route.Sound :=
  ⟨⟨_, rfl⟩, routeSound_curve⟩

theorem witness_MismatchTableStaysApart : (∃ t, step framing = .next t) ∧ framing.MismatchSound :=
  ⟨⟨_, rfl⟩, by decide, by decide +kernel, by decide, List.Pairwise.nil⟩

theorem healthSoundAt_curve (i : CarId) : framing.HealthSoundAt i := by
  fin_cases i <;> constructor <;> decide +kernel

theorem witness_HealthStaysSound : (∃ t, step framing = .next t) ∧ framing.HealthSound :=
  ⟨⟨_, rfl⟩, healthSoundAt_curve⟩

theorem tiltSoundAt_curve (i : CarId) : framing.TiltSoundAt i := by
  fin_cases i <;>
    exact ⟨by decide +kernel, by decide +kernel, by decide +kernel, by unfold TiltLaw.Sound; decide +kernel⟩

theorem witness_TrainStaysSound : (∃ t, step framing = .next t) ∧ framing.CarsSound ∧ framing.TiltSound :=
  ⟨⟨_, rfl⟩, carsSound_of (by decide +kernel) (by decide +kernel) (by decide +kernel),
    tiltSoundAt_curve, by unfold TiltLaw.Sound; decide +kernel⟩

theorem witness_OdometryStaysSound : (∃ t, step framing = .next t) ∧ framing.OdometrySound := by
  refine ⟨⟨_, rfl⟩, ⟨by decide, by decide, by decide, ?_⟩, ⟨by decide, by decide, by decide, ?_⟩, by decide,
    by decide, by decide, by decide, trivial, by decide, by decide, by decide, by decide, by decide,
    by decide +kernel⟩
  · intro l h
    cases h
    decide
  · intro l h
    cases h

theorem witness_LinkStaysSound : (∃ t, step framing = .next t) ∧ framing.LinkSound :=
  ⟨⟨_, rfl⟩, by decide, by decide, by decide, by decide, by decide, by rintro t ⟨⟩, by rintro t ⟨⟩,
    by rintro b ⟨⟩, by decide, by decide, by decide, by decide, by rintro c o q h ⟨⟩⟩

end Sys2Proof.Tests
end

section
/-! SUPPORT. What leaves the odometry: the commands of the other blocks and the requests that do not speak of the
position or the train. -/

namespace Sys2Proof.Machine

/-- `t` comes after `s` with the odometry and the static settings as they were. -/
structure State.LeavesOdometry (s t : State) : Prop where
  odo : t.odo = s.odo
  settings : t.unit.settings = s.unit.settings
  now : s.now ≤ t.now

theorem State.LeavesOdometry.refl (s : State) : s.LeavesOdometry s := ⟨rfl, rfl, Nat.le_refl _⟩

theorem State.LeavesOdometry.trans {s t u : State} (h₁ : s.LeavesOdometry t) (h₂ : t.LeavesOdometry u) :
    s.LeavesOdometry u :=
  ⟨h₂.odo.trans h₁.odo, h₂.settings.trans h₁.settings, Nat.le_trans h₁.now h₂.now⟩

/-- Turns that each leave the odometry leave it together. -/
theorem State.LeavesOdometry.of_foldl {α : Type} (f : State → α → State)
    (h : ∀ (s : State) i, s.LeavesOdometry (f s i)) (l : List α) (s : State) : s.LeavesOdometry (l.foldl f s) :=
  foldl_keeps s.LeavesOdometry f (fun _ i hs => hs.trans (h _ i)) l s (.refl s)

theorem frameCars_leavesOdometry (v : Nat) (l : List CarId) (s : State) (lead : Option Nat) (car0 : Bool) :
    s.LeavesOdometry (frameCars v l s lead car0).1 := by
  induction l generalizing s lead car0 with
  | nil => exact .refl s
  | cons i l ih => exact .trans ⟨by simp, by simp, by simp⟩ (ih _ _ _)

theorem releaseCars_leavesOdometry (l : List CarId) (s : State) (n : Nat) :
    s.LeavesOdometry (releaseCars l s n).1 := by
  induction l generalizing s n with
  | nil => exact .refl s
  | cons i l ih =>
    unfold releaseCars
    split
    · exact .trans ⟨by simp, by simp, by simp⟩ (ih _ _)
    · exact ih _ _

theorem State.restart_leavesOdometry (s : State) : s.LeavesOdometry s.restart := by
  have h := State.LeavesOdometry.of_foldl State.restartCar (fun s i => ⟨by simp, by simp, by simp⟩) allCars s
  unfold restart postStarted
  exact h.trans ⟨by simp, by simp, by simp⟩

section Commands

variable {s t : State}

theorem execInhibitSet_leavesOdometry {dt n : Nat} (he : execInhibitSet dt n s = .next t) : s.LeavesOdometry t := by
  injection he with he; subst he
  split <;> exact ⟨by simp, by simp, by simp⟩

theorem execInhibitClear_leavesOdometry {dt n : Nat} (he : execInhibitClear dt n s = .next t) :
    s.LeavesOdometry t := by
  injection he with he; subst he
  split <;> exact ⟨by simp, by simp, by simp⟩

theorem execClockWindow_leavesOdometry {dt n : Nat} (he : execClockWindow dt n s = .next t) :
    s.LeavesOdometry t := by
  injection he with he; subst he
  split <;> exact ⟨by simp, by simp, by simp⟩

theorem execLinkSilentOnset_leavesOdometry (he : execLinkSilentOnset s = .next t) : s.LeavesOdometry t := by
  injection he with he; subst he
  dsimp only
  (repeat' split) <;> exact ⟨by simp, by simp, by simp⟩

theorem execControlFrame_leavesOdometry (he : execControlFrame s = .next t) : s.LeavesOdometry t := by
  injection he with he; subst he
  have frame : ∀ (u : State) lead, u.LeavesOdometry (u.evaluateLead lead).settle :=
    fun u lead => ⟨by simp, by simp, by simp⟩
  refine .trans ?_ (.trans (frameCars_leavesOdometry _ _ _ _ _) (frame _ _))
  exact ⟨rfl, rfl, Nat.le_max_left _ _⟩

theorem execPollCycleExpiry_leavesOdometry (he : execPollCycleExpiry s = .next t) : s.LeavesOdometry t := by
  injection he with he; subst he
  split <;> exact ⟨by simp, by simp, by simp⟩

theorem execSetpointSend_leavesOdometry {n : Nat} (he : execSetpointSend n s = .next t) : s.LeavesOdometry t := by
  injection he with he; subst he
  dsimp only
  (repeat' split) <;> exact ⟨by simp, by simp, by simp⟩

theorem execSetpointSent_leavesOdometry (he : execSetpointSent s = .next t) : s.LeavesOdometry t := by
  injection he with he; subst he
  dsimp only
  (repeat' split) <;> exact ⟨by simp, by simp, by simp⟩

theorem execTurnWaitLimit_leavesOdometry (he : execTurnWaitLimit s = .next t) : s.LeavesOdometry t := by
  injection he with he; subst he
  (repeat' split) <;> exact ⟨by simp, by simp, by simp⟩

theorem execReplyWindowClose_leavesOdometry (he : execReplyWindowClose s = .next t) : s.LeavesOdometry t := by
  injection he with he; subst he
  (repeat' split) <;> exact ⟨by simp, by simp, by simp⟩

theorem execStatusReception_leavesOdometry {dt : Nat} {bs : List RxByte}
    (he : execStatusReception dt bs s = .next t) : s.LeavesOdometry t := by
  injection he with he; subst he
  cases bs with
  | nil =>
    exact ⟨by simp [State.endReception], by simp [State.endReception],
      Nat.le_trans (Nat.le_add_right s.now dt) (State.endIdle_now (s.after dt) _).1⟩
  | cons b bs => exact ⟨by simp, by simp, by simp [State.hearRun_now, State.byteAfter_now]; omega⟩

end Commands

end Sys2Proof.Machine
end

section
/-! SUPPORT. The requests that leave the odometry. -/

namespace Sys2Proof.Machine

@[simp] theorem Answer.done_state (s : State) (data : List Byte) : (Answer.done s data).state = s := rfl

@[simp] theorem Answer.refuse_state (s : State) (st : Status) (data : List Byte) :
    (Answer.refuse s st data).state = s := rfl

/-- Every request but the three that speak of the position or the train leaves the odometry. -/
theorem request_leavesOdometry {c : Instr} {k tag : Byte} {m : State → Answer}
    (hm : requestMeaning c = some (k, tag, m)) (hs : ∀ g x, c ≠ .setPosition g x)
    (hf : ∀ g n x, c ≠ .positionFix g n x) (hc : ∀ g p, c ≠ .configureTrain g p) (s : State) :
    s.LeavesOdometry (m s).state := by
  cases c <;> simp only [requestMeaning, reduceCtorEq, Option.some.injEq, Prod.mk.injEq] at hm <;>
    obtain ⟨-, -, rfl⟩ := hm
  case identify => exact .refl s
  case configureTrain g p => exact absurd rfl (hc g p)
  case setTiltLaw g p =>
    unfold requestSetTiltLaw
    split
    · exact .refl s
    · rw [Answer.done_state]
      refine .trans ?_ (.of_foldl State.stageCar (fun s i => ⟨by simp, by simp, by simp⟩) allCars _)
      exact ⟨rfl, rfl, Nat.le_refl _⟩
  case setTrainSet g p =>
    unfold requestSetTrainSet
    split
    · exact .refl s
    · rw [Answer.done_state]; split <;> exact ⟨rfl, rfl, Nat.le_refl _⟩
  case setModeRun g =>
    unfold requestSetModeRun
    (repeat' split) <;> exact ⟨by simp, by simp, by simp⟩
  case setModeConfig g =>
    unfold requestSetModeConfig
    split
    · have h := State.LeavesOdometry.of_foldl State.drainCar (fun s i => ⟨by simp, by simp, by simp⟩) allCars
        (s.changeMode .draining)
      exact ⟨by simp [h.odo], by simp [h.settings], by simpa using h.now⟩
    · exact .refl s
    · exact .refl s
  case setPosition g x => exact absurd rfl (hs g x)
  case positionFix g n x => exact absurd rfl (hf g n x)
  case routeAppend g a rs =>
    unfold requestRouteAppend
    (repeat' split) <;> exact ⟨by simp [State.append], by simp [State.append], by simp [State.append]⟩
  case routeTruncate g x =>
    unfold requestRouteTruncate
    (repeat' split) <;> exact ⟨rfl, rfl, Nat.le_refl _⟩
  case routeClear g => exact ⟨rfl, rfl, Nat.le_refl _⟩
  case routeConfirm g =>
    unfold requestRouteConfirm
    split <;> exact ⟨rfl, rfl, Nat.le_refl _⟩
  case resume g x =>
    unfold requestResume
    (repeat' split)
    · exact releaseCars_leavesOdometry _ _ _
    all_goals exact ⟨by simp, by simp, by simp⟩
  case resumeAll g => exact releaseCars_leavesOdometry _ _ _
  case readmit g x =>
    unfold requestReadmit
    (repeat' split) <;> exact ⟨by simp, by simp, by simp⟩
  case queryTrain g => exact .refl s
  case queryCar g x =>
    unfold requestQueryCar
    split <;> exact .refl s
  case queryRoute g x =>
    unfold requestQueryRoute
    split <;> exact .refl s
  case restart g =>
    unfold requestRestart
    split <;> exact ⟨rfl, rfl, Nat.le_refl _⟩

end Sys2Proof.Machine
end

section
/-! SUPPORT. The operations of the odometry as equations: the comparison window, the captures, a position fix. -/

namespace Sys2Proof.Machine

/-! ## The comparison window as one change of the odometry -/

/-- What a disagreeing window makes of the odometry (R10 to R12). -/
def Odometry.disagreed (o : Odometry) (dA dB : Nat) : Odometry :=
  let n := min 4 (o.disagreements + 1)
  { o with
    disagreements := n, agreements := 0, doubt := o.doubt || n == 4
    selected := if o.doubt || n == 4 then largerChannel dA dB o.selected else o.selected }

/-- What an agreeing window makes of the odometry (R10 to R12). -/
def Odometry.agreed (o : Odometry) (dA dB : Nat) : Odometry :=
  let n := min 8 (o.agreements + 1)
  { o with
    agreements := n, disagreements := 0, doubt := o.doubt && n != 8
    selected := if o.doubt then (if n = 8 then .a else largerChannel dA dB o.selected) else o.selected }

/-- What the test of a window makes of the odometry (R10). -/
def Odometry.compared (o : Odometry) (dA dB limit : Nat) : Odometry :=
  if max dA dB < 500000 then o
  else if disagrees dA dB limit then o.disagreed dA dB
  else o.agreed dA dB

/-- The ODOMETRY_DOUBT notice of a change of the odometry to `o`: posted when its doubt is another (R19). -/
def State.doubtNotices (s : State) (o : Odometry) : List Notice :=
  if o.doubt = s.odo.doubt then []
  else [s.notice .odometryDoubt none (u16 (if o.doubt then 1 else 0)) (u16 (tachoCode o.selected))]

/-- An event that gives the odometry the value `o` and reports a change of ODOMETRY_DOUBT. -/
def State.TakesOdometry (s t : State) (o : Odometry) : Prop :=
  t = { s with odo := o, ctl := t.ctl } ∧ s.ctl.Reports t.ctl [] (s.doubtNotices o)

theorem State.TakesOdometry.quiet (s : State) (o : Odometry) (h : o.doubt = s.odo.doubt) :
    s.TakesOdometry { s with odo := o } o := by
  refine ⟨rfl, ?_⟩
  rw [doubtNotices, if_pos h]
  exact .refl _

theorem State.TakesOdometry.postDoubt (s : State) (o : Odometry) (h : o.doubt ≠ s.odo.doubt)
    (hp : o.position = s.odo.position) : s.TakesOdometry ({ s with odo := o } : State).postDoubt o := by
  refine ⟨State.post_eq { s with odo := o } _ _ _ _, ?_⟩
  rw [doubtNotices, if_neg h, notice, ← hp]
  exact State.post_reports { s with odo := o } _ _ _ _

theorem State.windowDisagrees_takes (s : State) (dA dB : Nat) :
    s.TakesOdometry (s.windowDisagrees dA dB) (s.odo.disagreed dA dB) := by
  unfold windowDisagrees Odometry.disagreed
  by_cases hd : s.odo.doubt = true
  · simp only [hd, if_true, Bool.true_or]
    exact .quiet s _ hd.symm
  by_cases hn : min 4 (s.odo.disagreements + 1) = 4
  · simp only [hd, hn, if_true, beq_self_eq_true, Bool.or_true]
    exact .postDoubt s _ (Ne.symm hd) rfl
  · simp only [hd, hn, if_false, beq_eq_false_iff_ne.mpr hn, Bool.or_false]
    exact .quiet s _ (by simp [hd])

theorem State.windowAgrees_takes (s : State) (dA dB : Nat) :
    s.TakesOdometry (s.windowAgrees dA dB) (s.odo.agreed dA dB) := by
  unfold windowAgrees Odometry.agreed
  by_cases hd : s.odo.doubt = true
  · by_cases hn : min 8 (s.odo.agreements + 1) = 8
    · simp only [hd, hn, if_true, bne_self_eq_false, Bool.and_false]
      exact .postDoubt s _ (by simp [hd]) rfl
    · simp only [hd, hn, if_true, if_false, bne_iff_ne.mpr hn, Bool.and_true]
      exact .quiet s _ hd.symm
  · simp only [hd, Bool.false_and]
    exact .quiet s _ (by simp [hd])

/-- The test of a window gives the odometry one value and reports a change of ODOMETRY_DOUBT (R10 to R12, R19). -/
theorem State.compareWindow_takes (s : State) (dA dB : Nat) :
    s.TakesOdometry (s.compareWindow dA dB) (s.odo.compared dA dB s.unit.settings.odoLimit) := by
  unfold compareWindow Odometry.compared
  split
  · exact .quiet s _ rfl
  · split
    · exact s.windowDisagrees_takes dA dB
    · exact s.windowAgrees_takes dA dB

/-- The state at the end of a window, before its test: the timer restarts and the distances are 0 (R9, R10). -/
def State.windowClosed (s : State) : State :=
  { s.runTo (s.odo.windowStart + windowPeriod) with
    odo := { s.odo with
      windowStart := s.odo.windowStart + windowPeriod
      tachoA := { s.odo.tachoA with windowDistance := 0 }
      tachoB := { s.odo.tachoB with windowDistance := 0 } } }

theorem execComparisonWindow_eq (s : State) :
    execComparisonWindow s
      = .next (s.windowClosed.compareWindow s.odo.tachoA.windowDistance s.odo.tachoB.windowDistance) := rfl

/-! ## Markers and captures -/

/-- The odometry with a marker captured at the position held (R14). -/
def Odometry.captured (o : Odometry) : Odometry :=
  { o with
    sequence := o.sequence + 1
    captures := (if o.captures.length < 4 then o.captures else o.captures.tail) ++ [⟨o.sequence + 1, o.position⟩] }

/-- A marker is captured and reported while the position is valid (R14, R19). -/
theorem State.captureMarker_valid (s : State) (h : s.odo.positionValid = true) :
    s.captureMarker = { s with odo := s.odo.captured, ctl := s.captureMarker.ctl }
      ∧ s.ctl.Reports s.captureMarker.ctl [] [s.notice .marker none ((s.odo.sequence + 1).setWidth 16) 0] := by
  have e : s.captureMarker = ({ s with odo := s.odo.captured } : State).post .marker none
      ((s.odo.sequence + 1).setWidth 16) 0 := by
    rw [captureMarker, if_pos h]; simp only [Odometry.captured, List.drop_one]
  rw [e]
  exact ⟨State.post_eq { s with odo := s.odo.captured } _ _ _ _,
    State.post_reports { s with odo := s.odo.captured } _ _ _ _⟩

/-- With the position not valid a marker is ignored (R14). -/
theorem State.captureMarker_invalid (s : State) (h : s.odo.positionValid = false) : s.captureMarker = s := by
  rw [captureMarker, if_neg (by simp [h])]

theorem findCapture_none {n : Byte} {l : List Capture} (h : ∀ e ∈ l, e.sequence ≠ n) : findCapture n l = none := by
  induction l with
  | nil => rfl
  | cons e l ih =>
    rw [findCapture, if_neg (h e (by simp))]
    exact ih fun f hf => h f (by simp [hf])

/-- The entry found is the oldest of its sequence (R16). -/
theorem findCapture_append {n : Byte} {p : Nat} {older newer : List Capture} (h : ∀ e ∈ older, e.sequence ≠ n) :
    findCapture n (older ++ ⟨n, p⟩ :: newer) = some (p, newer) := by
  induction older with
  | nil => simp [findCapture]
  | cons e l ih =>
    rw [List.cons_append, findCapture, if_neg (h e (by simp))]
    exact ih fun f hf => h f (by simp [hf])

theorem findCapture_some {n : Byte} {p : Nat} {l newer : List Capture} (h : findCapture n l = some (p, newer)) :
    ∃ older, l = older ++ ⟨n, p⟩ :: newer := by
  induction l with
  | nil => cases h
  | cons e l ih =>
    rw [findCapture] at h
    split at h
    · next hn => subst hn; injection h with h; injection h with h₁ h₂; subst h₁ h₂; exact ⟨[], rfl⟩
    · obtain ⟨older, rfl⟩ := ih h; exact ⟨e :: older, rfl⟩

theorem Consecutive.of_append {last : Byte} {a b : List Capture} (h : Consecutive last (a ++ b)) :
    Consecutive last b := by
  induction a with
  | nil => exact h
  | cons e a ih =>
    refine ih ?_
    cases hab : a ++ b with
    | nil => trivial
    | cons f r => rw [List.cons_append, hab] at h; exact h.2

/-- The next sequence continues the captures (R14). -/
theorem Consecutive.next {last : Byte} {l : List Capture} (h : Consecutive last l) (p : Nat) :
    Consecutive (last + 1) (l ++ [⟨last + 1, p⟩]) := by
  induction l with
  | nil => rfl
  | cons e l ih =>
    cases l with
    | nil => exact ⟨congrArg (· + 1) (Eq.symm h), rfl⟩
    | cons f r => exact ⟨h.1, ih h.2⟩

theorem Consecutive.map {last : Byte} {l : List Capture} (h : Consecutive last l) (f : Capture → Capture)
    (hf : ∀ e, (f e).sequence = e.sequence) : Consecutive last (l.map f) := by
  induction l with
  | nil => trivial
  | cons e l ih =>
    cases l with
    | nil => exact (hf e).trans h
    | cons g r => exact ⟨by rw [hf, hf]; exact h.1, ih h.2⟩

/-! ## A position fix in steps (R16 to R19) -/

/-- The position a correction leads to, held between the rear offset and the greatest chainage (R17). -/
def State.fixTarget (s : State) (correction : Int) : Nat :=
  (max (s.unit.settings.rearOffset : Int) (min (maxChainage : Int) (s.odo.position + correction))).toNat

/-- The correction was held (R17). -/
def State.fixClamped (s : State) (correction : Int) : Bool :=
  decide ((s.fixTarget correction : Int) ≠ s.odo.position + correction)

/-- The correction exceeds FIX_WINDOW (R18). -/
def State.fixLarge (s : State) (correction : Int) : Bool :=
  decide (s.unit.settings.fixWindow < correction.natAbs)

/-- The captures that are left, with the shift the position takes (R17). -/
def State.fixCaptures (s : State) (correction : Int) (newer : List Capture) : List Capture :=
  newer.map (fun e : Capture =>
    { e with position := shiftChainage e.position (s.fixTarget correction - s.odo.position) })

/-- The position and the captures corrected (R17). -/
def State.fixMoved (s : State) (correction : Int) (newer : List Capture) : State :=
  ({ s with odo := { s.odo with captures := s.fixCaptures correction newer } }).movePosition
    (s.fixTarget correction) (if s.fixClamped correction then 0 else s.odo.remainder)

/-- Value B of the notice of a fix, and the flags of its reply (Table 1-3, Table 11-7). -/
def State.fixFlags (s : State) (correction : Int) : Nat := fixCode (s.fixLarge correction) (s.fixClamped correction)

/-- The correction reported (R19). -/
def State.fixReported (s : State) (correction : Int) (newer : List Capture) : State :=
  (s.fixMoved correction newer).post .positionCorrected none (held16 correction) (u16 (s.fixFlags correction))

/-- The cars centred after a large correction (R18). -/
def State.fixApplied (s : State) (correction : Int) (newer : List Capture) : State :=
  if s.fixLarge correction then (s.fixReported correction newer).centreAll .positionJump
  else s.fixReported correction newer

theorem requestPositionFix_found {s : State} {n : Byte} {captured : Nat} {newer : List Capture}
    (h : findCapture n s.odo.captures = some (captured, newer)) (x : BitVec 32) :
    let c : Int := x.toNat - captured
    requestPositionFix n x s = .done (s.fixApplied c newer)
      (bytes32 (BitVec.ofInt 32 (hold (-2147483648) 2147483647 c))
        ++ [BitVec.ofNat 8 (s.fixFlags c)]
        ++ bytes32 (u32 (s.fixApplied c newer).odo.position)) := by
  unfold requestPositionFix
  rw [h]
  rfl

theorem requestPositionFix_missing {s : State} {n : Byte} (h : findCapture n s.odo.captures = none) (x : BitVec 32) :
    requestPositionFix n x s = .refuse s .noCapture := by
  unfold requestPositionFix
  rw [h]

end Sys2Proof.Machine
end

section
/-! SUPPORT. The soundness of the odometry, kept by every command and so by every step (O58). -/

namespace Sys2Proof.Machine

/-! ## The parts of the odometry's soundness -/

theorem TachoChannel.Sound.later {t : TachoChannel} {n m : Nat} (h : t.Sound n) (hn : n ≤ m) : t.Sound m :=
  ⟨h.count, h.range, h.stalled, fun l hl => Nat.le_trans (h.past l hl) hn⟩

/-- The soundness of a channel reads its history and its last pulse time. -/
theorem TachoChannel.Sound.of_history {t u : TachoChannel} {n : Nat} (h : t.Sound n) (hp : u.periods = t.periods)
    (hl : u.last = t.last) : u.Sound n :=
  ⟨hp ▸ h.count, hp ▸ h.range, fun h' => hp ▸ h.stalled (hl ▸ h'), fun l h' => h.past l (hl ▸ h')⟩

/-- A pulse later than the last one closes a period of 1 to 2,000,000 µs, or starts the history again (R2, R4). -/
theorem TachoChannel.Sound.capture {t : TachoChannel} {n time : Nat} (h : t.Sound n)
    (hlast : ∀ l, t.last = some l → l < time) (htime : time ≤ n) : (t.capture time).Sound n := by
  unfold TachoChannel.capture
  cases hl : t.last with
  | none =>
    have hp := h.stalled hl
    exact ⟨h.count, h.range, fun _ => hp, fun l e => by injection e with e; omega⟩
  | some last =>
    have hlt := hlast last hl
    dsimp only
    split
    · exact ⟨by simp, by simp, fun _ => rfl, fun l e => by injection e with e; omega⟩
    · next hs =>
      refine ⟨by simp, fun p hp => ?_, fun e => by simp at e, fun l e => by injection e with e; omega⟩
      rcases List.mem_cons.mp (List.mem_of_mem_take hp) with rfl | hp
      · unfold stallTime at hs; omega
      · exact h.range p hp

theorem State.OdometrySound.leaves {s t : State} (h : s.OdometrySound) (hl : s.LeavesOdometry t) :
    t.OdometrySound where
  tachoA := hl.odo ▸ h.tachoA.later hl.now
  tachoB := hl.odo ▸ h.tachoB.later hl.now
  position := hl.odo ▸ h.position
  remainder := hl.odo ▸ h.remainder
  invalid := hl.odo ▸ h.invalid
  captures := hl.odo ▸ h.captures
  consecutive := hl.odo ▸ h.consecutive
  captured := hl.odo ▸ h.captured
  counts := hl.odo ▸ h.counts
  oneRuns := hl.odo ▸ h.oneRuns
  trusted := hl.odo ▸ h.trusted
  doubted := hl.odo ▸ h.doubted
  rear := hl.settings ▸ h.rear

theorem State.OdometrySound.tacho {s : State} (h : s.OdometrySound) (ch : Tacho) : (s.tacho ch).Sound s.now := by
  cases ch
  · exact h.tachoA
  · exact h.tachoB

theorem State.OdometrySound.setTacho {s : State} (h : s.OdometrySound) (ch : Tacho) {t : TachoChannel}
    (ht : t.Sound s.now) : (s.setTacho ch t).OdometrySound := by
  cases ch
  · exact { h with tachoA := ht }
  · exact { h with tachoB := ht }

/-- A valid position takes any value of its range (R6, R7). -/
theorem State.OdometrySound.movePosition {s : State} (h : s.OdometrySound) (hv : s.odo.positionValid = true)
    {p r : Nat} (hp : p ≤ maxChainage) (hr : r < 10000) : (s.movePosition p r).OdometrySound := by
  have moved : ({ s with odo := { s.odo with position := p, remainder := r } } : State).OdometrySound :=
    { h with position := hp, remainder := hr, invalid := fun hn => by simp [hv] at hn }
  obtain ⟨e, -⟩ := s.movePosition_spec p r
  exact moved.leaves (by rw [e]; exact ⟨rfl, rfl, Nat.le_refl _⟩)

/-- With a valid position the captures may be any of the table's (R14). -/
theorem State.OdometrySound.setCaptures {s : State} (h : s.OdometrySound) (hv : s.odo.positionValid = true)
    {n : Byte} {l : List Capture} (hl : l.length ≤ 4) (hc : Consecutive n l) (hp : ∀ e ∈ l, e.position ≤ maxChainage) :
    ({ s with odo := { s.odo with sequence := n, captures := l } } : State).OdometrySound :=
  { h with captures := hl, consecutive := hc, captured := hp, invalid := fun hn => by simp [hv] at hn }

/-! ## The events of the odometry -/

theorem State.OdometrySound.advance {s : State} (h : s.OdometrySound) (hv : s.odo.positionValid = true) (dpp : Nat) :
    (s.advance dpp).OdometrySound := by
  unfold State.advance
  dsimp only
  split
  · next hle => exact h.movePosition hv hle (by omega)
  · exact h.movePosition hv (Nat.le_refl _) (by omega)

theorem State.OdometrySound.acceptPulse {s : State} (h : s.OdometrySound) (ch : Tacho) {time : Nat}
    (hlast : ∀ l, (s.tacho ch).last = some l → l < time) (htime : time ≤ s.now) :
    (s.acceptPulse ch time).OdometrySound := by
  have ht := h.setTacho ch (((h.tacho ch).capture hlast htime).of_history
    (u := { (s.tacho ch).capture time with
      windowDistance := ((s.tacho ch).capture time).windowDistance + s.unit.settings.dpp ch }) rfl rfl)
  unfold State.acceptPulse
  dsimp only
  split
  · next hc => exact ht.advance hc.2 _
  · exact ht

theorem State.edgeSeen_iff (s : State) (ch : Tacho) (fell : Bool) (held : Nat) :
    s.edgeSeen ch fell held = true ↔ held ≤ s.now ∧ (fell = true ∨ (s.tacho ch).high = false)
      ∧ ∀ last, (s.tacho ch).last = some last → last < s.now - held := by
  unfold edgeSeen
  cases (s.tacho ch).last <;> simp [and_assoc]

@[simp] theorem State.setTacho_tacho (s : State) (ch : Tacho) (t : TachoChannel) : (s.setTacho ch t).tacho ch = t := by
  cases ch <;> rfl

theorem State.OdometrySound.tachoPulse {s t : State} (h : s.OdometrySound) {dt held : Nat} {ch : Tacho} {fell : Bool}
    (he : execTachoPulse dt ch fell held s = .next t) : t.OdometrySound := by
  have ha : (s.after dt).OdometrySound := h.leaves ⟨rfl, rfl, Nat.le_add_right _ _⟩
  injection he with he; subst he
  split
  · next hs =>
    obtain ⟨-, -, hlast⟩ := (State.edgeSeen_iff _ _ _ _).mp hs
    split
    · have hrise := ha.setTacho ch
        (t := { (s.after dt).tacho ch with high := true, highSince := (s.after dt).now - held })
        ((ha.tacho ch).of_history rfl rfl)
      refine hrise.acceptPulse ch ?_ ?_
      · rw [State.setTacho_tacho]; exact hlast
      · simp
    · exact ha.setTacho ch ((ha.tacho ch).of_history rfl rfl)
  · exact ha

theorem State.OdometrySound.tachoStall {s t : State} (h : s.OdometrySound) {ch : Tacho}
    (he : execTachoStall ch s = .next t) : t.OdometrySound := by
  injection he with he; subst he
  split
  · next last _ =>
    have hr : (s.runTo (stallInstant last)).OdometrySound := h.leaves ⟨rfl, rfl, Nat.le_max_left _ _⟩
    exact hr.setTacho ch ⟨by simp, by simp, fun _ => rfl, by simp⟩
  · exact h

theorem State.OdometrySound.disagreed {s : State} (h : s.OdometrySound) (dA dB : Nat) :
    ({ s with odo := s.odo.disagreed dA dB } : State).OdometrySound :=
  { h with
    counts := ⟨Nat.min_le_left _ _, Nat.zero_le _⟩
    oneRuns := .inr rfl
    trusted := fun hn => by
      simp only [Odometry.disagreed, Bool.or_eq_false_iff, beq_eq_false_iff_ne] at hn ⊢
      obtain ⟨hd, hn⟩ := hn
      exact ⟨by omega, by simpa [hd, hn] using (h.trusted hd).2⟩
    doubted := fun _ => Nat.zero_le _ }

theorem State.OdometrySound.agreed {s : State} (h : s.OdometrySound) (dA dB : Nat) :
    ({ s with odo := s.odo.agreed dA dB } : State).OdometrySound :=
  { h with
    counts := ⟨Nat.zero_le _, Nat.min_le_left _ _⟩
    oneRuns := .inl rfl
    trusted := fun hn => by
      refine ⟨Nat.zero_le _, ?_⟩
      cases hd : s.odo.doubt with
      | false => simpa [Odometry.agreed, hd] using (h.trusted hd).2
      | true => simp_all [Odometry.agreed]
    doubted := fun hn => by
      simp only [Odometry.agreed, Bool.and_eq_true, bne_iff_ne] at hn ⊢
      omega }

theorem State.OdometrySound.compareWindow {s : State} (h : s.OdometrySound) (dA dB : Nat) :
    (s.compareWindow dA dB).OdometrySound := by
  have compared : ({ s with odo := s.odo.compared dA dB s.unit.settings.odoLimit } : State).OdometrySound := by
    unfold Odometry.compared
    split
    · exact h
    · split
      · exact h.disagreed _ _
      · exact h.agreed _ _
  refine compared.leaves ?_
  rw [(s.compareWindow_takes dA dB).1]
  exact ⟨rfl, rfl, Nat.le_refl _⟩

theorem State.OdometrySound.comparisonWindow {s t : State} (h : s.OdometrySound)
    (he : execComparisonWindow s = .next t) : t.OdometrySound := by
  rw [execComparisonWindow_eq] at he
  injection he with he; subst he
  have hr : (s.runTo (s.odo.windowStart + windowPeriod)).OdometrySound := h.leaves ⟨rfl, rfl, Nat.le_max_left _ _⟩
  have closed : s.windowClosed.OdometrySound :=
    { hr with tachoA := hr.tachoA.of_history rfl rfl, tachoB := hr.tachoB.of_history rfl rfl }
  exact closed.compareWindow _ _

theorem State.OdometrySound.captureMarker {s : State} (h : s.OdometrySound) : s.captureMarker.OdometrySound := by
  cases hv : s.odo.positionValid with
  | false => rw [s.captureMarker_invalid hv]; exact h
  | true =>
    obtain ⟨e, -⟩ := s.captureMarker_valid hv
    have room : ∃ old, (if s.odo.captures.length < 4 then s.odo.captures else s.odo.captures.tail) = old
        ∧ old.length ≤ 3 ∧ Consecutive s.odo.sequence old ∧ ∀ e ∈ old, e.position ≤ maxChainage := by
      have hl := h.captures
      split
      · exact ⟨_, rfl, by omega, h.consecutive, h.captured⟩
      · refine ⟨_, rfl, by rw [List.length_tail]; omega, ?_, fun e he => h.captured e (List.mem_of_mem_tail he)⟩
        rw [← List.drop_one]
        exact .of_append (a := s.odo.captures.take 1) (by rw [List.take_append_drop]; exact h.consecutive)
    obtain ⟨old, hold, hlen, hcons, hpos⟩ := room
    have taken : ({ s with odo := s.odo.captured } : State).OdometrySound := by
      unfold Odometry.captured
      rw [hold]
      refine h.setCaptures hv (by simp; omega) (hcons.next _) fun e he => ?_
      rcases List.mem_append.mp he with he | he
      · exact hpos e he
      · rw [List.mem_singleton.mp he]; exact h.position
    exact taken.leaves (by rw [e]; exact ⟨rfl, rfl, Nat.le_refl _⟩)

theorem State.OdometrySound.markerSample {s : State} (h : s.OdometrySound) (level : Bool) :
    (s.markerSample level).OdometrySound := by
  have filtered : ∀ f, ({ s with odo := { s.odo with markerFilter := f } } : State).OdometrySound :=
    fun f => { h with }
  unfold State.markerSample
  dsimp only
  split
  · exact (filtered _).captureMarker
  · exact filtered _

theorem State.OdometrySound.markerPulse {s t : State} (h : s.OdometrySound) {dt : Nat} {samples : List Bool}
    (he : execMarkerPulse dt samples s = .next t) : t.OdometrySound := by
  injection he with he; subst he
  exact foldl_keeps State.OdometrySound State.markerSample (fun _ b hs => hs.markerSample b) samples _
    (h.leaves ⟨rfl, rfl, Nat.le_add_right _ _⟩)

/-! ## The requests that touch the odometry -/

theorem State.OdometrySound.setPosition {s : State} (h : s.OdometrySound) (x : BitVec 32) :
    (requestSetPosition x s).state.OdometrySound := by
  unfold requestSetPosition
  split
  · exact h
  · split
    · exact h
    · have valid : ({ s with odo := { s.odo with positionValid := true, captures := [] } } : State).OdometrySound :=
        { h with
          captures := by simp, consecutive := trivial, captured := by simp, invalid := fun hn => by simp at hn }
      exact valid.movePosition rfl (by have := x.isLt; unfold maxChainage; omega) (by omega)

theorem State.fixTarget_le {s : State} (h : s.unit.settings.rearOffset ≤ maxChainage) (correction : Int) :
    s.fixTarget correction ≤ maxChainage := by
  unfold fixTarget; omega

theorem State.OdometrySound.positionFix {s : State} (h : s.OdometrySound) (n : Byte) (x : BitVec 32) :
    (requestPositionFix n x s).state.OdometrySound := by
  cases hf : findCapture n s.odo.captures with
  | none => rw [requestPositionFix_missing hf]; exact h
  | some found =>
    obtain ⟨captured, newer⟩ := found
    rw [requestPositionFix_found hf, Answer.done_state]
    generalize (x.toNat - captured : Int) = c
    obtain ⟨older, hc⟩ := findCapture_some hf
    have hv : s.odo.positionValid = true := by
      by_contra hn
      obtain ⟨-, -, hnone⟩ := h.invalid (by simpa using hn)
      simp [hc] at hnone
    have hlen := h.captures
    have hcons := h.consecutive
    rw [hc] at hlen hcons
    have shifted : ({ s with odo := { s.odo with captures := s.fixCaptures c newer } } : State).OdometrySound := by
      refine h.setCaptures hv (by simp [State.fixCaptures] at hlen ⊢; omega) ?_ ?_
      · exact (Consecutive.of_append (a := older ++ [_]) (by simpa using hcons)).map _ fun e => rfl
      · intro e he
        obtain ⟨d, -, rfl⟩ := List.mem_map.mp he
        exact shiftChainage_le _ _
    have moved : (s.fixMoved c newer).OdometrySound :=
      shifted.movePosition hv (State.fixTarget_le (Nat.le_trans h.rear (by decide)) c)
        (by have := h.remainder; split <;> omega)
    refine moved.leaves ?_
    unfold State.fixApplied State.fixReported
    split <;> exact ⟨by simp, by simp, by simp⟩

/-- The offsets that a good payload configures are at most 50,000 (Table 9-2). -/
theorem rearOffset_trainSettings {p : TrainPayload} (h : firstBad (trainChecks p) = none) :
    (trainSettings p).rearOffset ≤ 50000 := by
  have good := (firstBad_none _).mp h
  have hcount : 1 ≤ p.carCount.toNat ∧ p.carCount.toNat ≤ 8 := by
    have := good (0, within 1 8 p.carCount.toNat) (by simp [trainChecks])
    simpa [within] using this
  have hoffset : ∀ k, k < 8 → offsetGood p k = true := by
    intro k hk
    exact good (k + 1, offsetGood p k) (by interval_cases k <;> simp [trainChecks])
  have hrear : ∀ k, (hk : k < 8) → k < p.carCount.toNat → (p.offsets[k]).toNat ≤ 50000 := by
    intro k hk hc
    have := hoffset k hk
    unfold offsetGood at this
    split at this
    · next h0 => subst h0; simp at this; simp [this]
    · simp [hk] at this; omega
  unfold Settings.rearOffset trainSettings
  dsimp only
  split
  · omega
  · have := hrear (p.carCount.toNat - 1) (by omega) (by omega)
    have hlt : p.carCount.toNat - 1 < 8 := by omega
    have hc : p.carCount.toNat - 1 < p.carCount.toNat := by omega
    simp [hlt, hc]; omega

theorem State.OdometrySound.configureTrain {s : State} (h : s.OdometrySound) (p : TrainPayload) :
    (requestConfigureTrain p s).state.OdometrySound := by
  unfold requestConfigureTrain
  split
  · exact h
  · split
    · exact h
    · next hgood =>
      have configured : ({ s with unit := { s.unit with settings := trainSettings p } } : State).OdometrySound :=
        { h with rear := rearOffset_trainSettings hgood }
      refine configured.leaves ?_
      rw [Answer.done_state]
      have left : ∀ (u : State) joins, u.LeavesOdometry (u.leaveToNextCycle joins) :=
        fun u joins => ⟨by simp, by simp, by simp⟩
      refine .trans ?_ (left _ _)
      refine .trans ?_ (.of_foldl State.forgetCar (fun s i => ⟨by simp, by simp, by simp⟩) _ _)
      exact .of_foldl State.recount (fun s i => ⟨by simp, by simp, by simp⟩) _ _

theorem State.OdometrySound.request {c : Instr} {k tag : Byte} {m : State → Answer} {s : State}
    (hm : requestMeaning c = some (k, tag, m)) (h : s.OdometrySound) : (m s).state.OdometrySound := by
  by_cases hs : ∃ g x, c = .setPosition g x
  · obtain ⟨g, x, rfl⟩ := hs
    simp only [requestMeaning, Option.some.injEq, Prod.mk.injEq] at hm
    obtain ⟨-, -, rfl⟩ := hm
    exact h.setPosition x
  by_cases hf : ∃ g n x, c = .positionFix g n x
  · obtain ⟨g, n, x, rfl⟩ := hf
    simp only [requestMeaning, Option.some.injEq, Prod.mk.injEq] at hm
    obtain ⟨-, -, rfl⟩ := hm
    exact h.positionFix n x
  by_cases hc : ∃ g p, c = .configureTrain g p
  · obtain ⟨g, p, rfl⟩ := hc
    simp only [requestMeaning, Option.some.injEq, Prod.mk.injEq] at hm
    obtain ⟨-, -, rfl⟩ := hm
    exact h.configureTrain p
  exact h.leaves (request_leavesOdometry hm (fun g x e => hs ⟨g, x, e⟩) (fun g n x e => hf ⟨g, n, x, e⟩)
    (fun g p e => hc ⟨g, p, e⟩) s)

/-! ## Every step -/

theorem State.OdometrySound.blank (cause : ResetCause) : (State.blank cause).OdometrySound :=
  have channel : TachoChannel.reset.Sound 0 := ⟨by decide, List.forall_mem_nil _, fun _ => rfl, fun _ h => nomatch h⟩
  { tachoA := channel, tachoB := channel, position := Nat.zero_le _, remainder := Nat.zero_lt_succ _
    invalid := fun _ => ⟨rfl, rfl, rfl⟩, captures := Nat.zero_le _, consecutive := trivial
    captured := List.forall_mem_nil _, counts := ⟨Nat.zero_le _, Nat.zero_le _⟩, oneRuns := .inl rfl
    trusted := fun _ => ⟨Nat.zero_le _, rfl⟩, doubted := fun _ => Nat.zero_le _, rear := Nat.zero_le _ }

theorem State.OdometrySound.hardwareReset (b : Bool) {s t : State} (he : execHardwareReset b s = .next t) :
    t.OdometrySound := by
  injection he with he; subst he
  refine (State.OdometrySound.blank (if b then .powerOn else .resetLine)).leaves ?_
  unfold State.postStarted
  exact ⟨by simp, by simp, by simp⟩

theorem State.OdometrySound.ignoresLink : IgnoresLink State.OdometrySound :=
  fun _ _ h => h.leaves ⟨rfl, rfl, Nat.le_refl _⟩

theorem State.OdometrySound.exec {c : Instr} {s t : State} (he : exec c s = .next t) (h : s.OdometrySound) :
    t.OdometrySound := by
  have control := fun hc => keeps_control State.OdometrySound.ignoresLink
    (fun _ _ _ _ _ hm h => State.OdometrySound.request hm h)
    (fun s h => h.leaves (t := s.heardFrame) ⟨by simp, by simp, by simp⟩) (fun _ _ hn h => h.leaves ⟨rfl, rfl, hn⟩)
    (fun s h => h.leaves s.restart_leavesOdometry) c hc he h
  cases c
  case hardwareReset b => exact .hardwareReset b he
  case tachoPulse => exact h.tachoPulse he
  case tachoStall => exact h.tachoStall he
  case comparisonWindow => exact h.comparisonWindow he
  case markerPulse => exact h.markerPulse he
  case inhibitSet => exact h.leaves (execInhibitSet_leavesOdometry he)
  case inhibitClear => exact h.leaves (execInhibitClear_leavesOdometry he)
  case clockWindow => exact h.leaves (execClockWindow_leavesOdometry he)
  case linkSilentOnset => exact h.leaves (execLinkSilentOnset_leavesOdometry he)
  case controlFrame => exact h.leaves (execControlFrame_leavesOdometry he)
  case pollCycleExpiry => exact h.leaves (execPollCycleExpiry_leavesOdometry he)
  case setpointSend => exact h.leaves (execSetpointSend_leavesOdometry he)
  case setpointSent => exact h.leaves (execSetpointSent_leavesOdometry he)
  case turnWaitLimit => exact h.leaves (execTurnWaitLimit_leavesOdometry he)
  case replyWindowClose => exact h.leaves (execReplyWindowClose_leavesOdometry he)
  case statusReception => exact h.leaves (execStatusReception_leavesOdometry he)
  all_goals exact control (by simp [requestMeaning])

/-- A step is the effect of one command on the state with another queue, or 1 µs of time. -/
theorem step_cases {s t : State} (h : step s = .next t) :
    (∃ c rest, s.pending = c :: rest ∧ exec c { s with pending := rest } = .next t)
      ∨ (∃ c, s.pending = [] ∧ s.dueCommand = some c ∧ exec c s = .next t)
      ∨ (s.pending = [] ∧ s.dueCommand = none ∧ t = s.after 1) := by
  unfold step at h
  split at h
  · next c rest hp => exact .inl ⟨c, rest, hp, h⟩
  · next hp =>
    split at h
    · next c hc => exact .inr (.inl ⟨c, hp, hc, h⟩)
    · next hc => injection h with h; exact .inr (.inr ⟨hp, hc, h.symm⟩)

/-- Settles O58: each command that touches the odometry keeps it sound, and every other leaves it. -/
theorem odometryStaysSound : Obligations.OdometryStaysSound := by
  intro s t hstep h
  rcases step_cases hstep with ⟨c, rest, -, he⟩ | ⟨c, -, -, he⟩ | ⟨-, -, rfl⟩
  · exact .exec he (h.leaves ⟨rfl, rfl, Nat.le_refl _⟩)
  · exact .exec he h
  · exact h.leaves ⟨rfl, rfl, Nat.le_add_right _ _⟩

end Sys2Proof.Machine
end

section
/-! SUPPORT. Pulses, the position they move, and the speed (O17, O18, O19). -/

namespace Sys2Proof.Machine

/-! ## An accepted pulse -/

/-- A channel after a pulse accepted at `time` (R1, R2). -/
def TachoChannel.accepted (t : TachoChannel) (time dpp : Nat) : TachoChannel :=
  { high := true
    highSince := time
    last := some time
    periods := match t.last with
      | none => t.periods
      | some last => if time - last ≤ 2000000 then ((time - last) :: t.periods).take 4 else []
    windowDistance := t.windowDistance + dpp }

@[simp] theorem State.setTacho_setTacho (s : State) (ch : Tacho) (t u : TachoChannel) :
    (s.setTacho ch t).setTacho ch u = s.setTacho ch u := by
  cases ch <;> rfl

theorem State.setTacho_other (s : State) {ch other : Tacho} (h : other ≠ ch) (t : TachoChannel) :
    (s.setTacho ch t).tacho other = s.tacho other := by
  cases ch <;> cases other <;> simp_all [setTacho, tacho]

theorem State.setTacho_eq (s : State) (ch : Tacho) (t : TachoChannel) :
    s.setTacho ch t = { s with odo := (s.setTacho ch t).odo } := by
  cases ch <;> rfl

@[simp] theorem State.movePosition_tacho (s : State) (p r : Nat) (ch : Tacho) :
    (s.movePosition p r).tacho ch = s.tacho ch := by
  cases ch <;> simp [tacho]

theorem TachoChannel.capture_accepted (t : TachoChannel) (time dpp : Nat) :
    let u : TachoChannel := { t with high := true, highSince := time }
    { u.capture time with windowDistance := (u.capture time).windowDistance + dpp } = t.accepted time dpp := by
  unfold capture accepted
  cases t.last with
  | none => rfl
  | some last =>
    dsimp only
    by_cases h : stallTime < time - last
    · rw [if_pos h, if_neg (by unfold stallTime at h; omega)]
    · rw [if_neg h, if_pos (by unfold stallTime at h; omega)]

/-- The state in which a pulse has closed its period and has not yet moved the train. -/
def State.pulsed (s : State) (dt held : Nat) (ch : Tacho) : State :=
  (s.after dt).setTacho ch ((s.tacho ch).accepted (s.now + dt - held) (s.unit.settings.dpp ch))

/-- A pulse on the selected channel with a valid position moves the train; another closes its period and no
more (R6). -/
theorem execTachoPulse_accepted {s : State} {dt held : Nat} {ch : Tacho} {fell : Bool}
    (hs : (s.after dt).edgeSeen ch fell held = true) (hh : 20 ≤ held) :
    execTachoPulse dt ch fell held s
      = .next (if ch = s.odo.selected ∧ s.odo.positionValid = true then
          (s.pulsed dt held ch).advance (s.unit.settings.dpp ch)
        else s.pulsed dt held ch) := by
  unfold execTachoPulse
  dsimp only
  rw [if_pos hs, if_pos (show pulseFilterTime ≤ held from hh)]
  unfold State.acceptPulse
  simp only [State.setTacho_tacho, State.setTacho_setTacho, State.after_now, State.setTacho_frame, State.after_unit,
    State.after_odo, TachoChannel.capture_accepted]
  rfl

theorem execTachoPulse_short {s : State} {dt held : Nat} {ch : Tacho} {fell : Bool}
    (hs : (s.after dt).edgeSeen ch fell held = true) (hh : held < 20) :
    execTachoPulse dt ch fell held s = .next ((s.after dt).setTacho ch { s.tacho ch with high := false }) := by
  unfold execTachoPulse
  dsimp only
  rw [if_pos hs, if_neg (show ¬ pulseFilterTime ≤ held from Nat.not_le.mpr hh)]
  rfl

theorem execTachoPulse_unseen {s : State} {dt held : Nat} {ch : Tacho} {fell : Bool}
    (hs : ¬ (s.after dt).edgeSeen ch fell held = true) : execTachoPulse dt ch fell held s = .next (s.after dt) := by
  unfold execTachoPulse
  dsimp only
  rw [if_neg hs]

/-- The position advances to whole centimetres with no distance lost, until it saturates (R6). -/
theorem State.advance_moves (s : State) (dpp : Nat) :
    ∃ p r, s.advance dpp = s.movePosition p r
      ∧ (let cm := s.odo.position + (s.odo.remainder + dpp) / 10000
        if cm ≤ 4294967295 then
          p = cm ∧ r < 10000 ∧ p * 10000 + r = s.odo.position * 10000 + s.odo.remainder + dpp
        else p = 4294967295 ∧ r = 0) := by
  unfold advance
  dsimp only
  by_cases h : s.odo.position + (s.odo.remainder + dpp) / 10000 ≤ maxChainage
  · refine ⟨_, _, if_pos h, ?_⟩
    rw [if_pos (show _ ≤ 4294967295 from h)]
    exact ⟨rfl, by omega, by omega⟩
  · refine ⟨_, _, if_neg h, ?_⟩
    rw [if_neg (show ¬ _ ≤ 4294967295 from h)]
    exact ⟨rfl, rfl⟩

/-- Retirement reads of the first state its position, its route and its table, and of the second those and the
parameters. -/
theorem State.Retires.congr {s s' t t' : State} (h : s.Retires t) (hp : s'.odo.position = s.odo.position)
    (hr : s'.route = s.route) (hs : s'.sup = s.sup) (ho : t'.odo = t.odo) (hr' : t'.route = t.route)
    (hs' : t'.sup = t.sup) (hset : t'.unit.settings = t.unit.settings) (htrain : t'.unit.trainSet = t.unit.trainSet) :
    s'.Retires t' := by
  have hrear : t'.rearPosition = t.rearPosition := by rw [rearPosition, rearPosition, ho, hset]
  constructor
  · rw [ho, hp, hr, hr']; exact h.still
  · rw [ho, hp, hr, hr', hrear]; exact h.segments
  · rw [ho, hp, hs, hs']; exact h.backward
  · rw [ho, hp, hs, hs', hrear, htrain]; exact h.mismatches

/-- Settles O17, by the three outcomes of the edge test and the filter. -/
theorem pulseClosesAPeriod : Obligations.PulseClosesAPeriod := by
  intro dt held ch fell s u time old edgeSeen
  have hiff : (s.after dt).edgeSeen ch fell held = true ↔ edgeSeen := State.edgeSeen_iff _ _ _ _
  refine ⟨fun h => execTachoPulse_unseen (hiff.not.mpr h), fun h hh => execTachoPulse_short (hiff.mpr h) hh,
    fun h hh => ?_⟩
  have he := execTachoPulse_accepted (hiff.mpr h) hh
  have hch : (s.pulsed dt held ch).tacho ch = old.accepted time (s.unit.settings.dpp ch) := State.setTacho_tacho _ _ _
  have hother : ∀ other, other ≠ ch → (s.pulsed dt held ch).tacho other = s.tacho other :=
    fun other ho => State.setTacho_other _ ho _
  have hframe : s.pulsed dt held ch = { u with odo := (s.pulsed dt held ch).odo } := State.setTacho_eq _ _ _
  by_cases hsel : ch = s.odo.selected ∧ s.odo.positionValid = true
  · rw [if_pos hsel] at he
    obtain ⟨p, r, hmove, -⟩ := (s.pulsed dt held ch).advance_moves (s.unit.settings.dpp ch)
    rw [hmove] at he
    refine ⟨_, he, by rw [State.movePosition_tacho, hch]; rfl, fun other ho => ?_, fun hn => ?_, ?_⟩
    · rw [State.movePosition_tacho]; exact hother other ho
    · exact absurd hsel fun ⟨h₁, h₂⟩ => hn.elim (· h₁) (fun h₃ => Bool.noConfusion (h₂.symm.trans h₃))
    · rw [((s.pulsed dt held ch).movePosition_spec p r).1, hframe]
  · rw [if_neg hsel] at he
    exact ⟨_, he, hch, hother, fun _ => by rw [hch]; rfl, by unfold State.pulsed; cases ch <;> rfl⟩

/-- Settles O18, by the conservation of distance in `State.advance_moves`. -/
theorem pulseMovesPosition : Obligations.PulseMovesPosition := by
  intro dt held fell s ch hheld hfell hlast h20 hvalid
  have he := execTachoPulse_accepted ((State.edgeSeen_iff (s.after dt) ch fell held).mpr ⟨hheld, hfell, hlast⟩) h20
  rw [if_pos ⟨rfl, hvalid⟩] at he
  obtain ⟨p, r, hmove, hcm⟩ := (s.pulsed dt held ch).advance_moves (s.unit.settings.dpp ch)
  rw [hmove] at he
  have hodo : (s.pulsed dt held ch).odo
      = { s.odo with tachoA := (s.pulsed dt held ch).odo.tachoA, tachoB := (s.pulsed dt held ch).odo.tachoB } := by
    unfold State.pulsed; cases ch <;> rfl
  obtain ⟨hmoved, hret⟩ := (s.pulsed dt held ch).movePosition_spec p r
  refine ⟨_, he, ?_, ?_, ?_⟩
  · rw [hodo] at hcm
    simpa using hcm
  · rw [hmoved, hodo]
  · exact hret.congr (by rw [hodo]) (by simp [State.pulsed]) (by simp [State.pulsed]) rfl rfl rfl rfl rfl

/-! ## The speed -/

theorem stallInstant_eq (last : Nat) : stallInstant last = last + 2000021 := by
  unfold stallInstant pulseFilterTime stallTime; omega

/-- With four periods before the stall (R3). -/
theorem TachoChannel.speed_running {t : TachoChannel} {p₁ p₂ p₃ p₄ last : Nat} (hp : t.periods = [p₁, p₂, p₃, p₄])
    (hl : t.last = some last) {now : Nat} (h : now ≤ last + 2000020) (dpp : Nat) :
    t.speed dpp now = min 90000 (4 * dpp * 1000 / (max p₁ (now - last) + p₂ + p₃ + p₄)) := by
  unfold speed
  rw [hp, hl]
  dsimp only
  rw [if_neg (by rw [stallInstant_eq]; omega)]

/-- Once the stall is due (R4). -/
theorem TachoChannel.speed_stalled {t : TachoChannel} {last : Nat} (hl : t.last = some last) {now : Nat}
    (h : last + 2000021 ≤ now) (dpp : Nat) : t.speed dpp now = 0 := by
  unfold speed
  rw [hl]
  split
  · next hlast => injection hlast with hlast; subst hlast; exact if_pos (by rw [stallInstant_eq]; exact h)
  · rfl

/-- Without four periods and a last pulse time there is no speed (R3). -/
theorem TachoChannel.speed_zero {t : TachoChannel} (h : t.last = none ∨ t.periods.length ≠ 4) (dpp now : Nat) :
    t.speed dpp now = 0 := by
  unfold speed
  split
  · next hp hl => simp_all
  · rfl

/-- A channel has no speed, or it has four periods and a last pulse time. -/
theorem TachoChannel.speed_cases (t : TachoChannel) :
    (∀ dpp now, t.speed dpp now = 0) ∨ ∃ p₁ p₂ p₃ p₄ last, t.periods = [p₁, p₂, p₃, p₄] ∧ t.last = some last := by
  cases hl : t.last with
  | none => exact .inl (speed_zero (.inl hl))
  | some last =>
    by_cases h4 : t.periods.length = 4
    · match hp : t.periods, h4 with
      | [p₁, p₂, p₃, p₄], _ => exact .inr ⟨p₁, p₂, p₃, p₄, last, rfl, rfl⟩
    · exact .inl (speed_zero (.inr h4))

/-- The speed does not rise while no pulse comes (R3). -/
theorem TachoChannel.speed_antitone (t : TachoChannel) (dpp : Nat) (hp : ∀ p ∈ t.periods, 1 ≤ p) {now later : Nat}
    (h : now ≤ later) : t.speed dpp later ≤ t.speed dpp now := by
  rcases t.speed_cases with h0 | ⟨p₁, p₂, p₃, p₄, last, he, hl⟩
  · rw [h0, h0]
  by_cases hstall : later ≤ last + 2000020
  · rw [speed_running he hl hstall, speed_running he hl (Nat.le_trans h hstall)]
    have hpos : 1 ≤ p₂ := hp p₂ (by simp [he])
    have hsum : 4 * dpp * 1000 / (max p₁ (later - last) + p₂ + p₃ + p₄)
        ≤ 4 * dpp * 1000 / (max p₁ (now - last) + p₂ + p₃ + p₄) :=
      Nat.div_le_div_left (by omega) (by omega)
    omega
  · rw [speed_stalled hl (by omega)]
    exact Nat.zero_le _

theorem execTachoStall_some {s : State} {ch : Tacho} {last : Nat} (hl : (s.tacho ch).last = some last)
    (hn : s.now ≤ last + 2000021) :
    execTachoStall ch s
      = .next (State.setTacho { s with now := last + 2000021 } ch { s.tacho ch with periods := [], last := none }) := by
  have hrun : s.runTo (stallInstant last) = { s with now := last + 2000021 } := by
    unfold State.runTo
    rw [stallInstant_eq, Nat.max_eq_right hn]
  unfold execTachoStall
  rw [hl]
  dsimp only
  rw [hrun]

/-- Settles O19, from the speed of a channel before, at and after its stall. -/
theorem speedFallsUntilTheStall : Obligations.SpeedFallsUntilTheStall := by
  refine ⟨fun t dpp now p₁ p₂ p₃ p₄ last hp hl => ⟨fun h => ?_, fun h => t.speed_stalled hl h dpp⟩,
    fun t dpp now later hp h => t.speed_antitone dpp hp h,
    fun t dpp now h => t.speed_zero (.inr (by omega)) dpp now, fun ch last s hl hn => ?_, fun ch s hl => ?_,
    fun s => ?_⟩
  · have hmax : max p₁ (now - last) = if p₁ < now - last then now - last else p₁ := by split <;> omega
    rw [TachoChannel.speed_running hp hl h, hmax]
    dsimp only
    generalize 4 * dpp * 1000 / _ = v
    split <;> omega
  · refine ⟨_, execTachoStall_some hl hn, rfl, ?_⟩
    unfold State.channelSpeed
    rw [State.setTacho_tacho]
    exact TachoChannel.speed_zero (.inl rfl) _ _
  · change execTachoStall ch s = _
    unfold execTachoStall
    rw [hl]
  · unfold State.speed State.channelSpeed
    cases s.odo.selected <;> rfl

end Sys2Proof.Machine
end

section
/-! SUPPORT. The comparison window, markers, and the two requests that set the position (O20 to O23). -/

namespace Sys2Proof.Machine

/-- Settles O20: the window closes, and its test gives the odometry the value `Odometry.compared`. -/
theorem comparisonWindowTested : Obligations.ComparisonWindowTested := by
  intro s hnow dA dB larger bad good o after
  have hrun : s.runTo (s.odo.windowStart + windowPeriod) = { s with now := s.odo.windowStart + 250000 } := by
    unfold State.runTo
    rw [show windowPeriod = 250000 from rfl, Nat.max_eq_right hnow]
  have hclosed : s.windowClosed = { s with now := s.odo.windowStart + 250000, odo := o } := by
    unfold State.windowClosed; rw [hrun]; rfl
  have hafter : o.compared dA dB s.unit.settings.odoLimit = after := by
    simp only [Odometry.compared, Odometry.disagreed, Odometry.agreed, Nat.max_lt, disagrees, decide_eq_true_eq]
    rfl
  have htacho : ∀ ch, tachoCode ch = if ch = .b then 1 else 0 := by intro ch; cases ch <;> rfl
  obtain ⟨e, r⟩ := s.windowClosed.compareWindow_takes dA dB
  generalize ht : s.windowClosed.compareWindow dA dB = t at e r
  rw [hclosed] at e r
  dsimp only at e r
  rw [hafter] at e r
  refine ⟨t, (execComparisonWindow_eq s).trans (congrArg _ ht), e, ?_⟩
  rw [← htacho]
  exact r

/-! ## The marker filter -/

/-- On a line that stays high a sample changes nothing (R13). -/
theorem State.markerSample_high (s : State) (h : s.odo.markerFilter = ⟨true, true, true⟩) :
    s.markerSample true = s := by
  cases s with
  | mk now odo => cases odo; simp_all [markerSample]

/-- However long the line stays high, no further marker comes (R13). -/
theorem State.markerSamples_high (n : Nat) (s : State) (h : s.odo.markerFilter = ⟨true, true, true⟩) :
    (List.replicate n true).foldl State.markerSample s = s := by
  induction n with
  | zero => rfl
  | succ n ih => rw [List.replicate_succ, List.foldl_cons, markerSample_high s h, ih]

/-- Three high samples after a low one are a marker (R13). -/
theorem State.markerSamples_three (s : State) :
    [false, true, true, true].foldl State.markerSample s
      = ({ s with odo := { s.odo with markerFilter := ⟨true, true, true⟩ } } : State).captureMarker := by
  simp [markerSample]

/-- Two high samples after a low one are none (R13). -/
theorem State.markerSamples_two (s : State) :
    [false, true, true, false].foldl State.markerSample s
      = { s with odo := { s.odo with markerFilter := ⟨true, true, false⟩ } } := by
  simp [markerSample]

/-- A high level after a low sample is one marker, however long (R13). -/
theorem execMarkerPulse_level (dt more : Nat) (s : State) :
    execMarkerPulse dt ([false, true, true, true] ++ List.replicate more true) s
      = .next ({ s with
          now := s.now + dt, odo := { s.odo with markerFilter := ⟨true, true, true⟩ } } : State).captureMarker := by
  unfold execMarkerPulse
  rw [List.foldl_append, State.markerSamples_three, State.markerSamples_high _ _ (by simp)]
  rfl

/-- Settles O21, from one marker for each high level. -/
theorem markerCapturedOnce : Obligations.MarkerCapturedOnce := by
  intro dt more s f
  let u : State := { s with now := s.now + dt, odo := { s.odo with markerFilter := f } }
  refine ⟨fun hv => ?_, fun hv => ?_, ?_⟩
  · obtain ⟨e, r⟩ := u.captureMarker_valid hv
    exact ⟨_, execMarkerPulse_level dt more s, e, r⟩
  · exact (execMarkerPulse_level dt more s).trans (congrArg _ (u.captureMarker_invalid hv))
  · exact congrArg _ (State.markerSamples_two (s.after dt))

/-! ## SET_POSITION and POSITION_FIX -/

/-- Settles O22, by the two tests and the change of the position. -/
theorem positionSet : Obligations.PositionSet := by
  intro tag chainage s hready
  have he := exec_ready (c := .setPosition tag chainage) rfl hready
  refine ⟨fun hm => ?_, fun hm hr => ?_, fun hm hr => ?_⟩
  · rw [he, requestSetPosition, if_pos hm]; rfl
  · rw [he, requestSetPosition, if_neg (not_not.mpr hm), if_pos hr]; rfl
  · rw [requestSetPosition, if_neg (not_not.mpr hm), if_neg (Nat.not_lt.mpr hr)] at he
    obtain ⟨e, r⟩ := State.movePosition_spec
      { s with odo := { s.odo with positionValid := true, captures := [] } } chainage.toNat 0
    refine ⟨_, he, ?_, r.congr rfl rfl rfl rfl rfl rfl rfl rfl⟩
    rw [Answer.done_state, e]
    rfl

/-- The odometry after a fix (R17). -/
def State.fixOdometry (s : State) (c : Int) (newer : List Capture) : Odometry :=
  { s.odo with
    position := s.fixTarget c, remainder := if s.fixClamped c then 0 else s.odo.remainder
    captures := s.fixCaptures c newer }

theorem State.fixMoved_spec (s : State) (c : Int) (newer : List Capture) :
    s.fixMoved c newer = { s with
        odo := s.fixOdometry c newer
        route := (s.fixMoved c newer).route, sup := (s.fixMoved c newer).sup }
      ∧ s.Retires (s.fixMoved c newer) := by
  obtain ⟨e, r⟩ := State.movePosition_spec
    { s with odo := { s.odo with captures := s.fixCaptures c newer } } (s.fixTarget c)
    (if s.fixClamped c then 0 else s.odo.remainder)
  exact ⟨e, r.congr rfl rfl rfl rfl rfl rfl rfl rfl⟩

theorem State.fixReported_spec (s : State) (c : Int) (newer : List Capture) :
    let t := s.fixReported c newer
    t = { s with odo := s.fixOdometry c newer, route := t.route, sup := t.sup, ctl := t.ctl }
      ∧ s.Retires t
      ∧ s.ctl.Reports t.ctl [] [t.notice .positionCorrected none (held16 c) (u16 (s.fixFlags c))] := by
  obtain ⟨e, ret⟩ := s.fixMoved_spec c newer
  unfold fixReported
  generalize s.fixMoved c newer = m at e ret
  have rep := m.post_reports .positionCorrected none (held16 c) (u16 (s.fixFlags c))
  rw [show m.ctl = s.ctl by rw [e]] at rep
  refine ⟨?_, ret.congr rfl rfl rfl (by simp) (by simp) (by simp) (by simp) (by simp), ?_⟩
  · rw [post_route, post_sup]
    refine (m.post_eq _ _ _ _).trans ?_
    generalize (m.post _ _ _ _).ctl = d
    rw [e]
  · simpa [notice] using rep

/-- What a fix makes of the state and reports (R17 to R19). -/
theorem State.fixApplied_spec {s : State} (h : s.TrackingConfigured) (c : Int) (newer : List Capture) :
    let t := s.fixApplied c newer
    t = { s with
        odo := s.fixOdometry c newer, route := t.route, sup := t.sup
        cars := if s.fixLarge c then s.cars.map CarChannel.centred else s.cars
        ctl := t.ctl }
      ∧ s.Retires t
      ∧ s.ctl.Reports t.ctl [] (t.notice .positionCorrected none (held16 c) (u16 (s.fixFlags c))
          :: (if s.fixLarge c then s.trackingCars.map (fun i => t.carNotice i .returning .positionJump) else [])) := by
  obtain ⟨e, ret, rep⟩ := s.fixReported_spec c newer
  unfold fixApplied
  generalize s.fixReported c newer = p at e ret rep
  have hcars : p.cars = s.cars := by rw [e]
  have hunit : p.unit = s.unit := by rw [e]
  by_cases hl : s.fixLarge c = true
  · obtain ⟨e₂, rep₂⟩ := p.centreAll_spec .positionJump (by unfold TrackingConfigured; rw [hcars, hunit]; exact h)
    simp only [hl, if_true]
    refine ⟨?_, ret.congr rfl rfl rfl (by simp) (by simp) (by simp) (by simp) (by simp), ?_⟩
    · rw [e₂, hcars, e]
    · simpa [trackingCars, carNotice, notice, hcars] using rep.trans rep₂
  · simp only [hl]
    exact ⟨e, ret, rep⟩

/-- Settles O23: without the entry NO_CAPTURE, with it the steps of a fix. -/
theorem positionFixApplied : Obligations.PositionFixApplied := by
  refine ⟨fun tag n surveyed s hready hmiss => ?_,
    fun tag n surveyed captured older newer s hready hsound holder hcap => ?_⟩
  · rw [exec_ready (c := .positionFix tag n surveyed) rfl hready, requestPositionFix_missing (findCapture_none hmiss)]
    rfl
  intro correction raw rear target hrear clamped large code
  have hfound : findCapture n s.odo.captures = some (captured, newer) := by rw [hcap]; exact findCapture_append holder
  have he := exec_ready (c := .positionFix tag n surveyed) rfl hready
  rw [requestPositionFix_found hfound] at he
  have htarget : (s.fixTarget correction : Int) = target := by
    unfold State.fixTarget maxChainage
    simp only [target, raw, rear]
    split <;> omega
  have hnat : s.fixTarget correction = target.toNat := by omega
  have hclamped : s.fixClamped correction = decide clamped := by
    unfold State.fixClamped; rw [htarget]
  have hlarge : s.fixLarge correction = decide large := rfl
  have hcode : s.fixFlags correction = code := by
    rw [State.fixFlags, hclamped, hlarge]; simp [fixCode, bit, code]
  have hcaptures : s.fixCaptures correction newer = newer.map (fun e : Capture =>
      ⟨e.sequence, (max 0 (min 4294967295 ((e.position : Int) + (target - s.odo.position)))).toNat⟩) := by
    unfold State.fixCaptures; rw [htarget]; rfl
  obtain ⟨e, hret, hrep⟩ := s.fixApplied_spec hsound.trackingConfigured correction newer
  have hposition : (s.fixApplied correction newer).odo.position = target.toNat := by rw [e]; exact hnat
  rw [hcode, hposition] at he
  rw [hcode] at hrep
  rw [State.fixOdometry, hnat, hclamped, hlarge, hcaptures] at e
  rw [hlarge] at hrep
  simp only [decide_eq_true_eq] at e hrep
  generalize s.fixApplied correction newer = t at he hret hrep e
  refine ⟨_, he, ?_, hret.congr rfl rfl rfl rfl rfl rfl rfl rfl, ?_⟩
  · rw [Answer.done_state, e]; rfl
  · have := hrep.trans (t.replied_reports
      ⟨0x87, tag, .ok, bytes32 (BitVec.ofInt 32 (hold (-2147483648) 2147483647 correction))
        ++ [BitVec.ofNat 8 code] ++ bytes32 (u32 target.toNat)⟩)
    rw [List.append_nil, List.nil_append] at this
    exact this

end Sys2Proof.Machine
end

section
/-! SUPPORT. The two starts: the STARTED notice, the hardware reset and the RESTART (O15, O16). -/

namespace Sys2Proof.Machine

/-! ## The STARTED notice -/

/-- After a start the control link is empty but for what the receiver counts, and the STARTED notice forms batch 0
at once (R191). -/
theorem State.postStarted_eq {s : State} {rxLast crcErrors dropped : Nat}
    (h : s.ctl = { ControlLink.reset with rxLast := rxLast, crcErrors := crcErrors, dropped := dropped }) :
    s.postStarted = { s with ctl := { s.ctl with
      slot := some ⟨0, 0, [s.notice .started none (u16 s.unit.resetCause.code) 0]⟩, batchSequence := 1
      transmitter := .sendingBatch s.now } } := by
  simp [postStarted, post, postNotice, joinNotice, formationTest, batchDue, formBatch, chooseFrame, notice,
    NoticeKind.urgent, ControlLink.reset, h]

/-- Settles O15: every block is in its reset state, and the STARTED notice is batch 0. -/
theorem hardwareResetLeaves : Obligations.HardwareResetLeaves := by
  intro supplyCameUp s law cause tacho
  change execHardwareReset supplyCameUp s = _
  unfold execHardwareReset
  rw [State.postStarted_eq (rxLast := 0) (crcErrors := 0) (dropped := 0) rfl]
  cases supplyCameUp <;> rfl

/-! ## The cars through a RESTART -/

/-- The record of a car after a RESTART, beside its drive (R112). -/
def CarChannel.restarted (c : CarChannel) (d : Drive) (tiltMax : Nat) : CarChannel :=
  if c.state = .offline then { c with law := defaultLaw, generation := 0 }
  else c.restart (d.restart (c.state == .probing)).health tiltMax

theorem State.restartCar_car (s : State) (i j : CarId) :
    (s.restartCar i).cars[j]
      = if i = j then s.cars[j].restarted s.link.drives[j] s.unit.settings.tiltMax else s.cars[j] := by
  unfold restartCar
  dsimp only
  rw [setCar_get]
  split
  · next h => subst h; rfl
  · rfl

theorem State.restartCar_drive (s : State) (i j : CarId) :
    (s.restartCar i).link.drives[j]
      = if i = j then s.link.drives[j].restart (s.cars[j].state == .probing) else s.link.drives[j] := by
  unfold restartCar
  dsimp only
  rw [setCar_link, setDrive_get]
  split
  · next h => subst h; rfl
  · rfl

/-- Each car of a list goes through the RESTART once, as it stood before (R112, R130). -/
theorem State.restart_list (l : List CarId) (hl : l.Nodup) (s : State) (j : CarId) (hj : j ∈ l) :
    (l.foldl State.restartCar s).cars[j] = s.cars[j].restarted s.link.drives[j] s.unit.settings.tiltMax
      ∧ (l.foldl State.restartCar s).link.drives[j] = s.link.drives[j].restart (s.cars[j].state == .probing) := by
  have other : ∀ (l : List CarId) (s : State), j ∉ l →
      (l.foldl State.restartCar s).cars[j] = s.cars[j]
        ∧ (l.foldl State.restartCar s).link.drives[j] = s.link.drives[j] := by
    intro l
    induction l with
    | nil => exact fun s _ => ⟨rfl, rfl⟩
    | cons i l ih =>
      intro s h
      have hi : i ≠ j := fun e => h (by simp [e])
      have hl : j ∉ l := fun e => h (by simp [e])
      rw [List.foldl_cons, (ih _ hl).1, (ih _ hl).2, restartCar_car, restartCar_drive, if_neg hi, if_neg hi]
      exact ⟨rfl, rfl⟩
  induction l generalizing s with
  | nil => cases hj
  | cons i l ih =>
    obtain ⟨hi, hl⟩ := List.nodup_cons.mp hl
    rw [List.foldl_cons]
    by_cases hij : i = j
    · subst hij
      obtain ⟨h₁, h₂⟩ := other l (s.restartCar i) hi
      rw [h₁, h₂, restartCar_car, restartCar_drive, if_pos rfl, if_pos rfl]
      exact ⟨rfl, rfl⟩
    · have hunit : (s.restartCar i).unit = s.unit := by simp
      obtain ⟨h₁, h₂⟩ := ih hl (s.restartCar i) ((List.mem_cons.mp hj).resolve_left (Ne.symm hij))
      rw [h₁, h₂, restartCar_car, restartCar_drive, if_neg hij, if_neg hij, hunit]
      exact ⟨rfl, rfl⟩

/-- The cars' turns of a RESTART change the cars and the drives alone. -/
theorem State.restart_fold_eq (l : List CarId) (s : State) :
    l.foldl State.restartCar s = { s with
      cars := (l.foldl State.restartCar s).cars
      link := { s.link with drives := (l.foldl State.restartCar s).link.drives } } := by
  induction l generalizing s with
  | nil => rfl
  | cons i l ih => rw [List.foldl_cons, ih]; rfl

/-- The restart of every block (R21, R49, R112, R130, R149, R165, R174, R178, R191, R193). -/
theorem State.restart_eq (s : State) :
    s.restart = { s with
      route := .reset, gateOpen := false, sup := .reset
      mon := { s.mon with linkSilent := false }
      cars := s.restart.cars
      link := { s.link with drives := s.restart.link.drives }
      unit := { s.unit with
        mode := .config, stagedLaw := defaultLaw, stagedGeneration := 0, trainSet := defaultTrainSet
        resetCause := .restart }
      ctl := { ControlLink.reset with
        rxLast := s.ctl.rxLast, crcErrors := s.ctl.crcErrors, dropped := s.ctl.dropped
        slot := some ⟨0, 0, [s.notice .started none 2 0]⟩, batchSequence := 1
        transmitter := .sendingBatch s.now } } := by
  unfold restart
  dsimp only
  rw [restart_fold_eq]
  rw [State.postStarted_eq rfl]
  rfl

theorem State.restart_car (s : State) (i : CarId) :
    s.restart.cars[i] = s.cars[i].restarted s.link.drives[i] s.unit.settings.tiltMax
      ∧ s.restart.link.drives[i] = s.link.drives[i].restart (s.cars[i].state == .probing) := by
  obtain ⟨h₁, h₂⟩ := s.restart_list allCars (by decide) i (mem_allCars i)
  unfold restart postStarted
  rw [post_cars, post_link]
  exact ⟨h₁, h₂⟩

/-- The last bit of the reply of a RESTART carries the restart out (R174). -/
theorem execReplySent_restart {since : Nat} {r : Reply} {rest : List Reply} {s : State}
    (hline : s.ctl.transmitter = .sendingReply since) (hr : s.ctl.replies = r :: rest) (hhold : s.ctl.hold = true)
    (hrestart : r.isRestart = true) (hnow : s.now ≤ since + controlBytesTime r.bytes.length) :
    execReplySent s = .next (State.restart { s with
      now := since + controlBytesTime r.bytes.length, ctl := { s.ctl with replies := rest } }) := by
  unfold execReplySent State.runTo
  rw [hline, hr]
  dsimp only
  rw [Nat.max_eq_right hnow, hhold, hrestart]
  rfl

/-- Settles O16: the judgement of the request, and at the last bit of its reply the restart of every block and car. -/
theorem restartInTwoParts : Obligations.RestartInTwoParts := by
  refine ⟨fun tag s hready hm => ?_, fun tag s hready hm => ?_, ?_⟩
  · rw [exec_ready (c := .restart tag) rfl hready, requestRestart, if_pos hm]; rfl
  · rw [exec_ready (c := .restart tag) rfl hready, requestRestart, if_neg (not_not.mpr hm)]; rfl
  intro since tag data rest s r sent hline hr hhold hnow hm
  let u : State := { s with now := sent, ctl := { s.ctl with replies := rest } }
  have he : execReplySent s = .next u.restart := execReplySent_restart hline hr hhold rfl hnow
  refine ⟨u.restart, he, ?_, fun i => ?_⟩
  · refine u.restart_eq.trans ?_
    rw [← hm]; rfl
  · have hc : u.restart.cars[i] = s.cars[i].restarted s.link.drives[i] s.unit.settings.tiltMax := (u.restart_car i).1
    have hd : u.restart.link.drives[i] = s.link.drives[i].restart (s.cars[i].state == .probing) := (u.restart_car i).2
    rw [hc, hd]
    generalize s.cars[i] = c, s.link.drives[i] = d
    dsimp only
    refine ⟨fun h => ?_, fun h => ?_, fun h => ?_⟩
    · simp [CarChannel.restarted, Drive.restart, h]
    · rcases h with h | h | h <;>
        simp [CarChannel.restarted, CarChannel.restart, restartState, Drive.restart, h]
    · simp [CarChannel.restarted, CarChannel.restart, restartState, Drive.restart, h]

end Sys2Proof.Machine
end

section
/-! SUPPORT. The timers of an idle step, and the machine after reset (O2, O60). -/

namespace Sys2Proof.Machine

/-! ## The timers of an idle step -/

theorem timerAt_eq (due : Option Nat) (c : Instr) : timerAt due c = due.toList.map (fun d => ⟨d, c⟩) := by
  cases due <;> rfl

theorem State.stallDue_eq (s : State) (ch : Tacho) : s.stallDue ch = (s.tacho ch).last.map (· + 2000021) := by
  unfold stallDue
  rw [show stallInstant = (· + 2000021) from funext stallInstant_eq]

/-- The timer of a transaction, told by its phase (R115 to R117). -/
theorem PollCycle.timer_eq (c : PollCycle) (idle : Nat) :
    c.timer idle = match c.phase with
      | .waiting turnAt =>
        if max turnAt idle + 20 ≤ turnAt + 4000 then ⟨max turnAt idle + 20, .setpointSend 0⟩
        else ⟨turnAt + 4000, .turnWaitLimit⟩
      | .sending sentAt _ => ⟨sentAt + 90, .setpointSent⟩
      | .window openedAt _ => ⟨openedAt + 1000, .replyWindowClose⟩
      | .receiving _ _ _ => ⟨idle + 20, .statusReception 0 []⟩ := by
  unfold PollCycle.timer
  cases c.phase with
  | waiting turnAt => simp only [lineIdleInTime, decide_eq_true_eq]; rfl
  | sending => rfl
  | window => rfl
  | receiving => rfl

theorem State.silenceTimer_list (s : State) :
    timerAt s.silenceDue .linkSilentOnset = if s.unit.mode ≠ .config ∧ s.mon.linkSilent = false then
      [⟨s.mon.silenceFrom + s.unit.settings.silenceTime * 1000, .linkSilentOnset⟩] else [] := by
  unfold silenceDue
  split <;> rfl

theorem State.gapTimer_list (s : State) :
    timerAt s.gapDue .frameGapTimeout
      = if s.ctl.rxBuffer = [] then [] else [⟨s.ctl.rxLast + 2001, .frameGapTimeout⟩] := by
  unfold gapDue
  by_cases h : s.ctl.rxBuffer = []
  · rw [if_neg (not_not.mpr h), if_pos h]; rfl
  · rw [if_pos h, if_neg h]; rfl

theorem State.frameEnd_eq (s : State) :
    s.frameEnd = match s.ctl.transmitter with
      | .idle => []
      | .sendingReply since =>
        (s.ctl.replies.take 1).map (fun r => ⟨since + controlBytesTime r.bytes.length, .replySent⟩)
      | .sendingBatch since =>
        s.ctl.slot.toList.map (fun b => ⟨since + controlBytesTime b.bytes.length, .batchSent⟩) := by
  unfold frameEnd
  cases s.ctl.transmitter with
  | idle => rfl
  | sendingReply since => cases s.ctl.replies <;> rfl
  | sendingBatch since => cases s.ctl.slot <;> rfl

theorem earliest_mem {l : List Timer} {t : Timer} (h : earliest l = some t) : t ∈ l := by
  induction l generalizing t with
  | nil => cases h
  | cons u l ih =>
    rw [earliest] at h
    split at h
    · injection h with h; simp [h]
    · next v hv =>
      split at h <;> injection h with h
      · subst h; simp [ih hv]
      · simp [h]

/-- The earliest timer of a list, where every one before it is later and none after it is earlier (log 3). -/
theorem earliest_append {before after : List Timer} {t : Timer} (hb : ∀ u ∈ before, t.due < u.due)
    (ha : ∀ u ∈ after, t.due ≤ u.due) : earliest (before ++ t :: after) = some t := by
  induction before with
  | nil =>
    rw [List.nil_append, earliest]
    split
    · rfl
    · next u hu => rw [if_neg (Nat.not_lt.mpr (ha u (earliest_mem hu)))]
  | cons u l ih =>
    rw [List.cons_append, earliest, ih fun v hv => hb v (by simp [hv])]
    exact if_pos (hb u (by simp))

/-- Settles O2: the list of timers in its parts, and the earliest of it. -/
theorem idleStepTakesDueTimer : Obligations.IdleStepTakesDueTimer := by
  intro s timer
  refine ⟨?_, fun hidle => ⟨fun before after t ht hdue hb ha => ?_, fun hlate => ?_⟩⟩
  · unfold State.timers
    rw [timerAt_eq, timerAt_eq, State.stallDue_eq, State.stallDue_eq, State.silenceTimer_list, State.gapTimer_list,
      State.frameEnd_eq, timerAt_eq, timerAt_eq]
    cases hc : s.link.cycle with
    | none => rfl
    | some c =>
      dsimp only [Option.map_some]
      rw [PollCycle.timer_eq]
      cases c.phase with
      | waiting turnAt => dsimp only; split <;> rfl
      | sending => rfl
      | window => rfl
      | receiving => rfl
  · have hcommand : s.dueCommand = some t.command := by
      unfold State.dueCommand
      rw [ht, earliest_append hb ha]
      exact if_pos hdue
    unfold step
    rw [hidle, hcommand]
  · change step s = .next (s.after 1)
    have hcommand : s.dueCommand = none := by
      unfold State.dueCommand
      split
      · next t ht => exact if_neg (Nat.not_le.mpr (hlate t (earliest_mem ht)))
      · rfl
    unfold step
    rw [hidle, hcommand]

/-! ## The machine after reset -/

theorem TiltLaw.sound_default : defaultLaw.Sound := by
  unfold TiltLaw.Sound; decide

@[simp] theorem State.reset_car (i : CarId) : State.reset.cars[i] = .reset := by
  simp [State.reset, State.blank]

@[simp] theorem State.reset_drive (i : CarId) : State.reset.link.drives[i] = .reset := by
  simp [State.reset, State.blank, ActuatorLink.reset]

theorem State.reset_routeSound : State.reset.route.Sound :=
  ⟨by decide, rfl, by decide, fun _ => ⟨rfl, rfl, rfl, rfl, rfl, rfl, rfl⟩⟩

theorem State.reset_mismatchSound : State.reset.MismatchSound :=
  ⟨by decide, by decide, by decide, List.Pairwise.nil⟩

theorem State.reset_healthSound : State.reset.HealthSound := by
  intro i
  have suspended : State.reset.sup.suspended[i] = false := by simp [State.reset, State.blank, Supervisor.reset]
  constructor <;> simp only [reset_car, reset_drive, suspended] <;> decide

theorem State.reset_carsSound : State.reset.CarsSound := by
  refine ⟨fun i => ?_, rfl, fun h => nomatch h⟩
  constructor <;> simp only [reset_car]
  · exact ⟨fun _ => Nat.zero_le _, fun _ => rfl⟩
  all_goals decide

theorem State.reset_tiltSound : State.reset.TiltSound := by
  refine ⟨fun i => ?_, TiltLaw.sound_default⟩
  constructor <;> simp only [reset_car]
  case law => exact TiltLaw.sound_default
  all_goals decide

theorem State.reset_odometrySound : State.reset.OdometrySound :=
  (State.OdometrySound.blank .powerOn).leaves ⟨rfl, rfl, Nat.le_refl _⟩

theorem State.reset_linkSound : State.reset.LinkSound where
  notices := by decide
  fifo := by decide
  replies := by decide
  waiting := by decide
  idle := by decide
  sendingReply _ h := nomatch h
  sendingBatch _ _ h := nomatch h
  batch b h := by injection h with h; subst h; decide
  quiet := by decide
  restarting := by decide
  gathering := by decide
  counts := by decide
  reception _ _ _ _ h := nomatch h

/-- Settles O60, block by block. -/
theorem resetIsSound : Obligations.ResetIsSound :=
  ⟨State.reset_routeSound, State.reset_mismatchSound, State.reset_healthSound, State.reset_carsSound,
    State.reset_tiltSound, State.reset_odometrySound, State.reset_linkSound⟩

end Sys2Proof.Machine
end

section
/-! SUPPORT. The chain of the route queue: what a chain holds, how it is joined and cut, and the look-up and the
retirement in it (R22 to R24, R29, R32). -/

namespace Sys2Proof.Machine

/-! ## What a chain holds -/

theorem Segment.Sound.start_lt_stop {g : Segment} (h : g.Sound) : g.start < g.stop := by
  have := h.length_ge
  unfold Segment.stop; omega

/-- A segment covers a chainage: its start is at most it and its end is greater (R29). -/
def Segment.Covers (g : Segment) (p : Nat) : Prop := g.start ≤ p ∧ p < g.stop

/-- The segments of a chain are in range and lie between its two chainages. -/
theorem Chained.mem {a b : Nat} {l : List Segment} (h : Chained a l b) :
    a ≤ b ∧ ∀ g ∈ l, g.Sound ∧ a ≤ g.start ∧ g.stop ≤ b := by
  induction l generalizing a with
  | nil => exact ⟨Nat.le_of_eq h, List.forall_mem_nil _⟩
  | cons g l ih =>
    obtain ⟨rfl, hg, hrest⟩ := h
    obtain ⟨hle, hmem⟩ := ih hrest
    have hlt := hg.start_lt_stop
    refine ⟨by omega, fun f hf => ?_⟩
    rcases List.mem_cons.mp hf with rfl | hf
    · exact ⟨hg, Nat.le_refl _, hle⟩
    · obtain ⟨hs, h₁, h₂⟩ := hmem f hf
      exact ⟨hs, by omega, h₂⟩

/-- Each segment of a chain ends before a later one starts. -/
theorem Chained.ordered {a b : Nat} {l : List Segment} (h : Chained a l b) :
    l.Pairwise (fun g f => g.stop ≤ f.start) := by
  induction l generalizing a with
  | nil => exact .nil
  | cons g l ih =>
    obtain ⟨-, -, hrest⟩ := h
    exact .cons (fun f hf => (hrest.mem.2 f hf).2.1) (ih hrest)

/-- Every chainage of a chain is covered. -/
theorem Chained.covered {a b p : Nat} {l : List Segment} (h : Chained a l b) (ha : a ≤ p) (hb : p < b) :
    ∃ g ∈ l, g.Covers p := by
  induction l generalizing a with
  | nil => exact absurd hb (by rw [← show a = b from h]; omega)
  | cons g l ih =>
    obtain ⟨hstart, -, hrest⟩ := h
    by_cases hp : p < g.stop
    · exact ⟨g, by simp, by omega, hp⟩
    · obtain ⟨f, hf, hc⟩ := ih hrest (by omega)
      exact ⟨f, by simp [hf], hc⟩

/-- No chainage is covered twice. -/
theorem Chained.covers_unique {a b p : Nat} {l : List Segment} (h : Chained a l b) {g f : Segment} (hg : g ∈ l)
    (hf : f ∈ l) (hgp : g.Covers p) (hfp : f.Covers p) : g = f := by
  obtain ⟨hg₁, hg₂⟩ := hgp
  obtain ⟨hf₁, hf₂⟩ := hfp
  induction l generalizing a with
  | nil => cases hg
  | cons e l ih =>
    obtain ⟨-, -, hrest⟩ := h
    have later : ∀ x ∈ l, e.stop ≤ x.start := fun x hx => (hrest.mem.2 x hx).2.1
    rcases List.mem_cons.mp hg with rfl | hgl <;> rcases List.mem_cons.mp hf with rfl | hfl
    · rfl
    · have := later f hfl; omega
    · have := later g hgl; omega
    · exact ih hrest hgl hfl

/-! ## Chains joined and cut -/

theorem Chained.append {a b c : Nat} {l m : List Segment} (hl : Chained a l b) (hm : Chained b m c) :
    Chained a (l ++ m) c := by
  induction l generalizing a with
  | nil => rw [show a = b from hl]; exact hm
  | cons g l ih =>
    obtain ⟨hstart, hg, hrest⟩ := hl
    exact ⟨hstart, hg, ih hrest⟩

/-- Retirement leaves a chain to the same end (R32). -/
theorem Chained.retireFrom {rear a b : Nat} {l : List Segment} (h : Chained a l b) :
    Chained (retireFrom rear a l).1 (retireFrom rear a l).2 b := by
  induction l generalizing a with
  | nil => exact h
  | cons g l ih =>
    unfold Machine.retireFrom
    split
    · exact ih h.2.2
    · exact h

/-- In a chain the segments that end ahead of a chainage are those left once its first ones have gone. -/
theorem Chained.dropWhile_eq_filter {rear a b : Nat} {l : List Segment} (h : Chained a l b) :
    l.dropWhile (fun g => g.stop ≤ rear) = l.filter (fun g => rear < g.stop) := by
  induction l generalizing a with
  | nil => rfl
  | cons g l ih =>
    obtain ⟨-, -, hrest⟩ := h
    by_cases hg : g.stop ≤ rear
    · simp [hg, ih hrest]
    · have hl : l.filter (fun g => decide (rear < g.stop)) = l := by
        refine List.filter_eq_self.mpr fun f hf => ?_
        obtain ⟨hs, hle, -⟩ := hrest.mem.2 f hf
        have := hs.start_lt_stop
        simp; omega
      simp [hg, Nat.lt_of_not_le hg, hl]

/-- A boundary of a chain cuts it: the segments that start before it lead to it (R37). -/
theorem Chained.cut {a b x : Nat} {l : List Segment} (h : Chained a l b)
    (hx : (∃ g ∈ l, g.start = x) ∨ x = b) : Chained a (l.filter (fun g => g.start < x)) x := by
  induction l generalizing a with
  | nil =>
    rcases hx with ⟨g, hg, -⟩ | rfl
    · cases hg
    · exact h
  | cons g l ih =>
    obtain ⟨rfl, hg, hrest⟩ := h
    obtain ⟨hle, hmem⟩ := hrest.mem
    have hlt := hg.start_lt_stop
    by_cases hgx : g.start = x
    · have hnone : (g :: l).filter (fun g => decide (g.start < x)) = [] := by
        refine List.filter_eq_nil_iff.mpr fun f hf => ?_
        rcases List.mem_cons.mp hf with rfl | hf
        · simp [hgx]
        · have := (hmem f hf).2.1
          simp; omega
      rw [hnone]
      exact hgx
    · have hlater : (∃ f ∈ l, f.start = x) ∨ x = b := by
        rcases hx with ⟨f, hf, rfl⟩ | hx
        · rcases List.mem_cons.mp hf with rfl | hf
          · exact absurd rfl hgx
          · exact .inl ⟨f, hf, rfl⟩
        · exact .inr hx
      have hlow : g.start < x := by
        rcases hlater with ⟨f, hf, rfl⟩ | rfl
        · have := (hmem f hf).2.1; omega
        · omega
      rw [List.filter_cons, if_pos (by simpa using hlow)]
      exact ⟨rfl, hg, ih hrest hlater⟩

/-! ## The look-up -/

theorem RouteQueue.governing_unanchored {r : RouteQueue} (h : r.anchored = false) (p : Nat) :
    r.governing p = none := by
  rw [governing, if_neg (by simp [h])]

/-- The look-up in a sound anchored queue finds the segment that covers the chainage (R29). -/
theorem RouteQueue.Sound.governing_eq_some {r : RouteQueue} (h : r.Sound) (ha : r.anchored = true) (p : Nat)
    (g : Segment) : r.governing p = some g ↔ g ∈ r.ring ∧ g.Covers p := by
  rw [governing, if_pos ha]
  constructor
  · intro hg
    have hp := List.find?_some hg
    simp only [Bool.and_eq_true, decide_eq_true_eq] at hp
    exact ⟨List.mem_of_find?_eq_some hg, hp⟩
  · rintro ⟨hmem, hc⟩
    cases hf : r.ring.find? (fun g => decide (g.start ≤ p) && decide (p < g.stop)) with
    | none =>
      have hn := List.find?_eq_none.mp hf g hmem
      obtain ⟨h₁, h₂⟩ := hc
      simp [h₁, h₂] at hn
    | some f =>
      have hp := List.find?_some hf
      simp only [Bool.and_eq_true, decide_eq_true_eq] at hp
      rw [h.chained.covers_unique (List.mem_of_find?_eq_some hf) hmem hp hc]

/-- Settles O28: the look-up finds the segment that covers the chainage, and in a chain there is one exactly from
the head start up to the end. -/
theorem lookupFindsTheOneSegment : Obligations.LookupFindsTheOneSegment := by
  intro r p
  refine ⟨fun h => RouteQueue.governing_unanchored h p, fun h ha => ⟨⟨fun ⟨hlo, hhi⟩ => ?_, fun hne => ?_⟩,
    h.governing_eq_some ha p, fun g hg hp => ?_⟩⟩
  · obtain ⟨g, hg, hc⟩ := h.chained.covered hlo hhi
    rw [(h.governing_eq_some ha p g).mpr ⟨hg, hc⟩]
    simp
  · obtain ⟨g, hg⟩ := Option.ne_none_iff_exists'.mp hne
    obtain ⟨hmem, h₁, h₂⟩ := (h.governing_eq_some ha p g).mp hg
    obtain ⟨-, hlo, hhi⟩ := h.chained.mem.2 g hmem
    omega
  · obtain ⟨hs, -, -⟩ := h.chained.mem.2 g hg
    exact (h.governing_eq_some ha p g).mpr ⟨hg, by omega, by rw [← hp]; exact hs.start_lt_stop⟩

/-! ## Retirement -/

theorem State.retireSegments_invalid {s : State} (h : s.odo.positionValid = false) : s.retireSegments = s := by
  rw [retireSegments, if_neg (by simp [h])]

theorem State.retireSegments_valid {s : State} (h : s.odo.positionValid = true) :
    s.retireSegments = { s with route := { s.route with
      headStart := (retireFrom s.rearPosition s.route.headStart s.route.ring).1
      ring := (retireFrom s.rearPosition s.route.headStart s.route.ring).2 } } := by
  rw [retireSegments, if_pos h]

theorem RouteQueue.Sound.retire {r : RouteQueue} (h : r.Sound) (rear : Nat) :
    ({ r with headStart := (retireFrom rear r.headStart r.ring).1
              ring := (retireFrom rear r.headStart r.ring).2 } : RouteQueue).Sound where
  fits := by
    rw [retireFrom_eq]
    exact Nat.le_trans (List.dropWhile_sublist _).length_le h.fits
  chained := h.chained.retireFrom
  bounded := h.bounded
  unanchored hn := by
    obtain ⟨hring, hhead, hrest⟩ := h.unanchored hn
    simp only [hring, hhead]
    exact ⟨rfl, rfl, hrest⟩

theorem State.retireSegments_sound {s : State} (h : s.route.Sound) : s.retireSegments.route.Sound := by
  cases hv : s.odo.positionValid with
  | false => rw [retireSegments_invalid hv]; exact h
  | true => rw [retireSegments_valid hv]; exact h.retire _

/-- Settles O29: retirement drops the first segments, which in a chain are those the rear car has passed. -/
theorem retirementDropsPassedSegments : Obligations.RetirementDropsPassedSegments := by
  intro s h
  refine ⟨fun hv => State.retireSegments_invalid hv, fun hv => ⟨?_, ?_, State.retireSegments_sound h⟩⟩
  · rw [State.retireSegments_valid hv]
  · rw [State.retireSegments_valid hv, retireFrom_eq]
    exact h.chained.dropWhile_eq_filter

end Sys2Proof.Machine
end

section
/-! SUPPORT. The requests that change the route: ROUTE_APPEND by its checks and carried out, ROUTE_TRUNCATE,
ROUTE_CLEAR and ROUTE_CONFIRM (R22, R25 to R27, R36, R37, R39, R40). -/

namespace Sys2Proof.Machine

/-! ## The records of an append -/

/-- The length of the records together. -/
def recordsLength (records : List SegmentPayload) : Nat := (records.map (fun r => r.length.toNat)).sum

/-- Every record is in range at the chainage where the ones before it end (R22, R26). -/
def RecordsInRange (start : Nat) (records : List SegmentPayload) : Prop :=
  ∀ a r b, records = a ++ r :: b → r.InRange (start + recordsLength a)

@[simp] theorem recordsLength_nil : recordsLength [] = 0 := rfl

@[simp] theorem recordsLength_cons (r : SegmentPayload) (l : List SegmentPayload) :
    recordsLength (r :: l) = r.length.toNat + recordsLength l := by
  simp [recordsLength]

theorem appendEnd_eq (start : Nat) (records : List SegmentPayload) :
    appendEnd start records = start + recordsLength records := by
  induction records generalizing start with
  | nil => rfl
  | cons r l ih =>
    have h : appendEnd start (r :: l) = appendEnd (start + r.length.toNat) l := rfl
    rw [h, ih, recordsLength_cons, Nat.add_assoc]

theorem RecordsInRange.nil (start : Nat) : RecordsInRange start [] := by
  intro a r b h
  cases a <;> cases h

theorem recordsInRange_cons (start : Nat) (r : SegmentPayload) (l : List SegmentPayload) :
    RecordsInRange start (r :: l) ↔ r.InRange start ∧ RecordsInRange (start + r.length.toNat) l := by
  constructor
  · intro h
    refine ⟨h [] r l rfl, fun a x b e => ?_⟩
    have := h (r :: a) x b (by rw [e]; rfl)
    rwa [recordsLength_cons, ← Nat.add_assoc] at this
  · rintro ⟨hr, hl⟩ a x b e
    cases a with
    | nil =>
      obtain ⟨rfl, -⟩ := List.cons.inj e
      exact hr
    | cons y a =>
      obtain ⟨rfl, rfl⟩ := List.cons.inj e
      rw [recordsLength_cons, ← Nat.add_assoc]
      exact hl a x b rfl

theorem withinSigned_iff (bound : Nat) (z : Int) : withinSigned bound z = true ↔ z.natAbs ≤ bound := by
  simp only [withinSigned, Bool.and_eq_true, decide_eq_true_eq]
  omega

theorem exempt_le_one (b : BitVec 2) : b.toNat ≤ 1 ↔ b = 0 ∨ b = 1 := by
  revert b; decide

/-- The check of a record is its being in range (R26). -/
theorem recordGood_iff (start : Nat) (r : SegmentPayload) : recordGood start r = true ↔ r.InRange start := by
  have hcap : (match r.cap with | some c => decide (c.toNat ≤ 1000) | none => true) = true
      ↔ ∀ c, r.cap = some c → c.toNat ≤ 1000 := by
    cases r.cap <;> simp
  have hc := withinSigned_iff 20000
  have hh := withinSigned_iff 200
  unfold recordGood
  simp only [Nat.cast_ofNat] at hc hh
  simp only [Bool.and_eq_true, hc, hh, within, decide_eq_true_eq, exempt_le_one]
  constructor
  · rintro ⟨⟨⟨⟨⟨⟨⟨hl, c₁⟩, c₂⟩, h₁⟩, h₂⟩, he⟩, hp⟩, hs⟩
    exact ⟨hl, ⟨c₁, c₂⟩, ⟨h₁, h₂⟩, he, hcap.mp hp, hs⟩
  · rintro ⟨hl, ⟨c₁, c₂⟩, ⟨h₁, h₂⟩, he, hp, hs⟩
    exact ⟨⟨⟨⟨⟨⟨⟨hl, c₁⟩, c₂⟩, h₁⟩, h₂⟩, he⟩, hcap.mpr hp⟩, hs⟩

/-- Records in range are passed over. -/
theorem firstBadRecord_append {start : Nat} {good : List SegmentPayload} (h : RecordsInRange start good) (index : Nat)
    (rest : List SegmentPayload) :
    firstBadRecord start index (good ++ rest)
      = firstBadRecord (start + recordsLength good) (index + good.length) rest := by
  induction good generalizing start index with
  | nil => rfl
  | cons r l ih =>
    obtain ⟨hr, hl⟩ := (recordsInRange_cons start r l).mp h
    rw [List.cons_append, firstBadRecord, if_pos ((recordGood_iff start r).mpr hr), ih hl, recordsLength_cons,
      List.length_cons]
    congr 1 <;> omega

theorem firstBadRecord_good {start : Nat} {records : List SegmentPayload} (h : RecordsInRange start records)
    (index : Nat) : firstBadRecord start index records = none := by
  simpa [firstBadRecord] using firstBadRecord_append h index []

theorem firstBadRecord_bad {start : Nat} {good : List SegmentPayload} {bad : SegmentPayload}
    (h : RecordsInRange start good) (hbad : ¬ bad.InRange (start + recordsLength good)) (index : Nat)
    (rest : List SegmentPayload) : firstBadRecord start index (good ++ bad :: rest) = some (index + good.length) := by
  rw [firstBadRecord_append h, firstBadRecord, if_neg (mt (recordGood_iff _ bad).mp hbad)]

/-- When no record is bad, every record is in range (R26). -/
theorem recordsInRange_of_firstBadRecord {start index : Nat} {records : List SegmentPayload}
    (h : firstBadRecord start index records = none) : RecordsInRange start records := by
  induction records generalizing start index with
  | nil => exact .nil start
  | cons r l ih =>
    rw [firstBadRecord] at h
    split at h
    · next hr => exact (recordsInRange_cons start r l).mpr ⟨(recordGood_iff start r).mp hr, ih h⟩
    · cases h

@[simp] theorem segmentsFrom_length (start : Nat) (records : List SegmentPayload) :
    (segmentsFrom start records).length = records.length := by
  induction records generalizing start with
  | nil => rfl
  | cons r l ih => simp [segmentsFrom, ih]

/-- A record joins with the end of the records before it as its start (R22). -/
theorem segmentsFrom_get (start : Nat) (a : List SegmentPayload) (r : SegmentPayload) (b : List SegmentPayload) :
    (segmentsFrom start (a ++ r :: b))[a.length]? = some (segmentAt (start + recordsLength a) r) := by
  induction a generalizing start with
  | nil => rfl
  | cons x a ih =>
    rw [List.cons_append, segmentsFrom, List.length_cons, List.getElem?_cons_succ, ih, recordsLength_cons,
      Nat.add_assoc]

theorem segmentAt_sound {r : SegmentPayload} {start : Nat} (h : r.InRange start) :
    (segmentAt start r).Sound where
  length_ge := h.length.1
  length_le := h.length.2
  curvature := h.curvature
  cant := h.cant
  cap c hc := by
    obtain ⟨w, hw, rfl⟩ := Option.map_eq_some_iff.mp hc
    exact h.cap w hw

/-- Records in range make a chain from the anchor to their end (R22, R23). -/
theorem RecordsInRange.chained {start : Nat} {records : List SegmentPayload} (h : RecordsInRange start records) :
    Chained start (segmentsFrom start records) (start + recordsLength records) := by
  induction records generalizing start with
  | nil => rfl
  | cons r l ih =>
    obtain ⟨hr, hl⟩ := (recordsInRange_cons start r l).mp h
    rw [recordsLength_cons, ← Nat.add_assoc]
    exact ⟨rfl, segmentAt_sound hr, ih hl⟩

/-- The end of records in range is a chainage (R26). -/
theorem RecordsInRange.end_le {start : Nat} {records : List SegmentPayload} (h : RecordsInRange start records)
    (hs : start ≤ maxChainage) : start + recordsLength records ≤ maxChainage := by
  induction records generalizing start with
  | nil => exact hs
  | cons r l ih =>
    obtain ⟨hr, hl⟩ := (recordsInRange_cons start r l).mp h
    rw [recordsLength_cons, ← Nat.add_assoc]
    exact ih hl hr.stop

/-! ## The judgement of an append -/

section Append

variable {anchor : BitVec 32} {records : List SegmentPayload} {s : State}

theorem requestRouteAppend_badLength (h : records = [] ∨ 6 < records.length) :
    requestRouteAppend anchor records s = .refuse s .badLength := by
  rw [requestRouteAppend, if_pos (by simpa using h)]

variable (hsome : records ≠ []) (hsix : records.length ≤ 6)

include hsome hsix

theorem requestRouteAppend_frozen (hd : s.route.doubt = true) :
    requestRouteAppend anchor records s = .refuse s .routeFrozen := by
  rw [requestRouteAppend, if_neg (by simpa [hsome] using hsix), if_pos hd]

variable (hd : s.route.doubt = false)

include hd

theorem requestRouteAppend_notContiguous (ha : s.route.anchored = true) (hne : anchor.toNat ≠ s.route.endChainage) :
    requestRouteAppend anchor records s = .refuse s .notContiguous (bytes32 (u32 s.route.endChainage)) := by
  rw [requestRouteAppend, if_neg (by simpa [hsome] using hsix), if_neg (by simp [hd]), if_pos ⟨ha, hne⟩]

variable (ha : s.route.anchored = false ∨ anchor.toNat = s.route.endChainage)

include ha

/-- With the anchor right the records decide, and then the free count. -/
theorem requestRouteAppend_anchored :
    requestRouteAppend anchor records s = match firstBadRecord anchor.toNat 0 records with
      | some index => .refuse s .outOfRange [BitVec.ofNat 8 index]
      | none =>
        if s.route.free < records.length then .refuse s .queueFull [BitVec.ofNat 8 s.route.free]
        else .done (s.append anchor.toNat records).retireSegments
          (bytes32 (u32 (appendEnd anchor.toNat records))
            ++ [BitVec.ofNat 8 (s.append anchor.toNat records).route.free]) := by
  rw [requestRouteAppend, if_neg (by simpa [hsome] using hsix), if_neg (by simp [hd]),
    if_neg (by rintro ⟨h₁, h₂⟩; simp_all)]
  rfl

end Append

/-- Settles O24: each check of Table 2-4 under the passing of those before it. -/
theorem appendJudgedInOrder : Obligations.AppendJudgedInOrder := by
  intro tag anchor records s hready start
  have he := exec_ready (c := .routeAppend tag anchor records) rfl hready
  refine ⟨fun h => ?_, fun hsome hsix => ⟨fun hd => ?_, fun hd ha hne => ?_, fun hd ha => ⟨?_, fun hgood hfull => ?_⟩⟩⟩
  · rw [he, requestRouteAppend_badLength h]; rfl
  · rw [he, requestRouteAppend_frozen hsome hsix hd]; rfl
  · rw [he, requestRouteAppend_notContiguous hsome hsix hd ha hne]; rfl
  · intro good bad rest hrecords hgood hbad
    have hfirst : firstBadRecord anchor.toNat 0 records = some good.length := by
      rw [hrecords, firstBadRecord_bad hgood hbad, Nat.zero_add]
    rw [he, requestRouteAppend_anchored hsome hsix hd ha, hfirst]
    rfl
  · have hpos := List.length_pos_of_ne_nil hsome
    have hfree : s.route.free < records.length := by unfold RouteQueue.free; omega
    rw [he, requestRouteAppend_anchored hsome hsix hd ha, firstBadRecord_good hgood]
    dsimp only
    rw [if_pos hfree]
    rfl

/-- Settles O25: the records join as `segmentsFrom` makes them, and the joined ring retires. -/
theorem appendCarriedOut : Obligations.AppendCarriedOut := by
  intro tag anchor records s hready hsome hsix hd ha start hgood hfits
  have hfree : ¬ s.route.free < records.length := by unfold RouteQueue.free; omega
  have hend : appendEnd anchor.toNat records = start records := appendEnd_eq _ _
  have he := exec_ready (c := .routeAppend tag anchor records) rfl hready
  rw [requestRouteAppend_anchored hsome hsix hd ha, firstBadRecord_good hgood] at he
  dsimp only at he
  rw [if_neg hfree] at he
  refine ⟨segmentsFrom anchor.toNat records, _, he, segmentsFrom_length _ _, fun a r b hrecords => ?_, ?_⟩
  · rw [hrecords, segmentsFrom_get]; rfl
  · rw [← hend]
    cases hv : s.odo.positionValid with
    | false =>
      rw [State.retireSegments_invalid (by exact hv)]
      refine ⟨rfl, fun _ => ⟨rfl, rfl⟩, ?_⟩
      intro h; cases h
    | true =>
      rw [State.retireSegments_valid (by exact hv), retireFrom_eq]
      refine ⟨rfl, ?_, fun _ => ⟨rfl, rfl⟩⟩
      intro h; cases h

/-! ## ROUTE_TRUNCATE -/

/-- A boundary of an anchored queue: the start of a queued segment, or the end (R36). -/
theorem RouteQueue.boundary_iff (r : RouteQueue) (x : Nat) :
    r.boundary x = true ↔ r.anchored = true ∧ ((∃ g ∈ r.ring, g.start = x) ∨ x = r.endChainage) := by
  simp [boundary]

theorem requestRouteTruncate_notBoundary {x : BitVec 32} {s : State} (h : ¬ s.route.boundary x.toNat = true) :
    requestRouteTruncate x s = .refuse s .notBoundary := by
  rw [requestRouteTruncate, if_neg h]

theorem requestRouteTruncate_committed {x : BitVec 32} {s : State} {c : Nat} (h : s.route.boundary x.toNat = true)
    (hc : s.route.commit = some c) (hx : x.toNat < c) :
    requestRouteTruncate x s
      = .refuse s .committed (bytes32 (u32 c) ++ bytes32 (u32 (s.route.firstAllowed c))) := by
  rw [requestRouteTruncate, if_pos h, hc]
  dsimp only
  rw [if_pos hx]

theorem requestRouteTruncate_done {x : BitVec 32} {s : State} (h : s.route.boundary x.toNat = true)
    (hc : ∀ c, s.route.commit = some c → c ≤ x.toNat) : requestRouteTruncate x s = s.truncated x.toNat := by
  rw [requestRouteTruncate, if_pos h]
  split
  · next c e => rw [if_neg (Nat.not_lt.mpr (hc c e))]
  · rfl

/-- The first allowed boundary of a sound queue is the least queued start at or after the commit point, or else the
end (R36). -/
theorem RouteQueue.Sound.firstAllowed {r : RouteQueue} (h : r.Sound) (c : Nat) :
    (r.firstAllowed c = r.endChainage ∧ ∀ g ∈ r.ring, g.start < c)
      ∨ (c ≤ r.firstAllowed c ∧ (∃ g ∈ r.ring, g.start = r.firstAllowed c)
        ∧ ∀ g ∈ r.ring, c ≤ g.start → r.firstAllowed c ≤ g.start) := by
  unfold RouteQueue.firstAllowed
  cases hf : r.ring.find? (fun g => decide (c ≤ g.start)) with
  | none =>
    exact .inl ⟨rfl, fun g hg => by simpa using List.find?_eq_none.mp hf g hg⟩
  | some g =>
    obtain ⟨hcg, before, after, hring, hbefore⟩ := List.find?_eq_some_iff_append.mp hf
    refine .inr ⟨by simpa using hcg, ⟨g, by simp [hring], rfl⟩, fun f hf hcf => ?_⟩
    rw [hring] at hf
    rcases List.mem_append.mp hf with hf | hf
    · have := hbefore f hf
      simp at this; omega
    · rcases List.mem_cons.mp hf with rfl | hf
      · exact Nat.le_refl _
      · have hordered := h.chained.ordered
        rw [hring] at hordered
        have hstop := (List.pairwise_cons.mp (List.pairwise_append.mp hordered).2.1).1 f hf
        have hlt := (h.chained.mem.2 g (by simp [hring])).1.start_lt_stop
        exact Nat.le_trans (Nat.le_of_lt hlt) hstop

theorem u32_toNat (x : BitVec 32) : u32 x.toNat = x := by
  unfold u32; simp

/-- Settles O26, request by request. -/
theorem routeWithdrawnOrConfirmed : Obligations.RouteWithdrawnOrConfirmed := by
  intro tag x s hready atBoundary
  have hb : s.route.boundary x.toNat = true ↔ atBoundary := RouteQueue.boundary_iff _ _
  have he := exec_ready (c := .routeTruncate tag x) rfl hready
  have hconfirm := exec_ready (c := .routeConfirm tag) rfl hready
  refine ⟨fun h => ?_, fun c h hc hx hsound => ⟨s.route.firstAllowed c, ?_, hsound.firstAllowed c⟩, fun h hc => ?_,
    exec_ready (c := .routeClear tag) rfl hready, fun hd => ?_, fun hd => ?_⟩
  · rw [he, requestRouteTruncate_notBoundary (hb.not.mpr h)]; rfl
  · rw [he, requestRouteTruncate_committed (hb.mpr h) hc hx]; rfl
  · rw [he, requestRouteTruncate_done (hb.mpr h) hc]
    unfold State.truncated
    rw [u32_toNat]
    rfl
  · rw [hconfirm, requestRouteConfirm, if_pos hd]; rfl
  · rw [hconfirm, requestRouteConfirm, if_neg (by simp [hd])]; rfl

end Sys2Proof.Machine
end

section
/-! SUPPORT. The soundness of the route queue, kept by every command and so by every step (O54). -/

namespace Sys2Proof.Machine

/-! ## Events that leave the chain -/

/-- `t` comes after `s` with the chain of the route queue as it was; an unanchored queue keeps its points and latches
too. -/
structure State.LeavesChain (s t : State) : Prop where
  ring : t.route.ring = s.route.ring
  anchored : t.route.anchored = s.route.anchored
  headStart : t.route.headStart = s.route.headStart
  endChainage : t.route.endChainage = s.route.endChainage
  unanchored : s.route.anchored = false →
    t.route.commit = s.route.commit ∧ t.route.lastLead = s.route.lastLead
      ∧ t.route.lowLatch = s.route.lowLatch ∧ t.route.exhaustedLatch = s.route.exhaustedLatch

theorem State.LeavesChain.of_route {s t : State} (h : t.route = s.route) : s.LeavesChain t := by
  constructor <;> simp [h]

theorem State.LeavesChain.trans {s t u : State} (h₁ : s.LeavesChain t) (h₂ : t.LeavesChain u) : s.LeavesChain u where
  ring := h₂.ring.trans h₁.ring
  anchored := h₂.anchored.trans h₁.anchored
  headStart := h₂.headStart.trans h₁.headStart
  endChainage := h₂.endChainage.trans h₁.endChainage
  unanchored hn := by
    obtain ⟨c₁, l₁, w₁, e₁⟩ := h₁.unanchored hn
    obtain ⟨c₂, l₂, w₂, e₂⟩ := h₂.unanchored (h₁.anchored.trans hn)
    exact ⟨c₂.trans c₁, l₂.trans l₁, w₂.trans w₁, e₂.trans e₁⟩

theorem RouteQueue.Sound.leaves {s t : State} (h : s.route.Sound) (hl : s.LeavesChain t) : t.route.Sound where
  fits := hl.ring ▸ h.fits
  chained := by rw [hl.ring, hl.headStart, hl.endChainage]; exact h.chained
  bounded := hl.endChainage ▸ h.bounded
  unanchored hn := by
    rw [hl.anchored] at hn
    obtain ⟨hring, hhead, hend, hcommit, hlead, hlow, hout⟩ := h.unanchored hn
    obtain ⟨ec, el, ew, ee⟩ := hl.unanchored hn
    exact ⟨hl.ring.trans hring, hl.headStart.trans hhead, hl.endChainage.trans hend, ec.trans hcommit,
      el.trans hlead, ew.trans hlow, ee.trans hout⟩

/-! ## The frame -/

theorem State.reportLookAhead_unanchored {s : State} (h : s.route.anchored = false) (p : Nat) :
    s.reportLookAhead p = s := by
  rw [reportLookAhead, if_neg (by simp [h])]

theorem State.report_unanchored {s : State} (h : s.route.anchored = false) (d : Demand) : s.report d = s := by
  unfold report
  split
  · exact reportLookAhead_unanchored h _
  · rfl

theorem State.computeCar_route (s : State) (v : Nat) (i : CarId) :
    (s.computeCar v i).route = (s.report (s.demand v i)).route := by
  simp [computeCar]

theorem State.frameCar_leavesChain (s : State) (v : Nat) (i : CarId) : s.LeavesChain (s.frameCar v i) := by
  refine ⟨by simp, by simp, by simp, by simp, fun hn => ⟨?_, by simp, by simp, by simp⟩⟩
  unfold frameCar
  dsimp only
  split
  · rw [computeCar_route, report_unanchored (by simpa using hn)]; simp
  · simp

theorem frameCars_leavesChain (v : Nat) (l : List CarId) (s : State) (lead : Option Nat) (car0 : Bool) :
    s.LeavesChain (frameCars v l s lead car0).1 := by
  induction l generalizing s lead car0 with
  | nil => exact .of_route rfl
  | cons i l ih => exact .trans (s.frameCar_leavesChain v i) (ih _ _ _)

theorem State.evaluateLead_unanchored {s : State} (h : s.route.anchored = false) (lead : Option Nat) :
    s.evaluateLead lead = s := by
  unfold evaluateLead
  split
  · rfl
  · rw [if_neg (by simp [h])]

theorem State.evaluateLead_leavesChain (s : State) (lead : Option Nat) : s.LeavesChain (s.evaluateLead lead) :=
  ⟨by simp, by simp, by simp, by simp, fun hn => by simp [evaluateLead_unanchored hn]⟩

theorem execControlFrame_leavesChain {s t : State} (he : execControlFrame s = .next t) : s.LeavesChain t := by
  injection he with he; subst he
  refine .trans ?_ (.trans (frameCars_leavesChain _ _ _ _ _)
    (.trans (State.evaluateLead_leavesChain _ _) (.of_route (State.settle_route _))))
  exact .of_route rfl

/-! ## The actuator link -/

theorem State.finish_leavesChain (s : State) (n : Nat) (c : PollCycle) (o : TransactionEnd) :
    s.LeavesChain ((s.runTo n).finish c o) :=
  ⟨by simp, by simp, by simp, by simp, fun _ => by simp⟩

theorem execTurnWaitLimit_leavesChain {s t : State} (he : execTurnWaitLimit s = .next t) : s.LeavesChain t := by
  injection he with he; subst he
  (repeat' split)
  case h_1.isFalse => exact State.finish_leavesChain _ _ _ _
  all_goals exact .of_route rfl

theorem execReplyWindowClose_leavesChain {s t : State} (he : execReplyWindowClose s = .next t) : s.LeavesChain t := by
  injection he with he; subst he
  (repeat' split)
  case h_1 => exact State.finish_leavesChain _ _ _ _
  all_goals exact .of_route rfl

theorem execStatusReception_leavesChain {dt : Nat} {bytes : List RxByte} {s t : State}
    (he : execStatusReception dt bytes s = .next t) : s.LeavesChain t := by
  injection he with he; subst he
  cases bytes with
  | nil => exact ⟨by simp [State.endReception], by simp [State.endReception], by simp [State.endReception],
      by simp [State.endReception], fun _ => by simp [State.endReception]⟩
  | cons b bytes => exact ⟨by simp, by simp, by simp, by simp, fun _ => by simp⟩

/-! ## Commands that leave the route -/

/-- The timed commands of the blocks that do not touch the route. -/
theorem exec_route {c : Instr} {s t : State} (he : exec c s = .next t)
    (hc : (∃ ch, c = .tachoStall ch) ∨ c = .comparisonWindow ∨ (∃ dt l, c = .markerPulse dt l)
      ∨ (∃ dt n, c = .inhibitSet dt n) ∨ (∃ dt n, c = .inhibitClear dt n) ∨ (∃ dt n, c = .clockWindow dt n)
      ∨ c = .linkSilentOnset ∨ c = .pollCycleExpiry ∨ (∃ n, c = .setpointSend n) ∨ c = .setpointSent) :
    t.route = s.route := by
  rcases hc with ⟨ch, rfl⟩ | rfl | ⟨dt, l, rfl⟩ | ⟨dt, n, rfl⟩ | ⟨dt, n, rfl⟩ | ⟨dt, n, rfl⟩ | rfl | rfl | ⟨n, rfl⟩
    | rfl <;> injection he with he <;> subst he
  case inr.inl => simp
  case inr.inr.inl =>
    exact foldl_view (fun s : State => s.route) State.markerSample (fun s b => by simp) l (s.after dt)
  all_goals (try dsimp only); (repeat' split) <;> simp

/-! ## Requests -/

theorem State.movePosition_routeSound {s : State} (h : s.route.Sound) (p r : Nat) :
    (s.movePosition p r).route.Sound := by
  unfold movePosition
  dsimp only
  split
  · rw [(retireMismatches_frame _).2.2.1]; exact retireSegments_sound h
  · split
    · exact retireSegments_sound h
    · exact h

theorem State.append_routeSound {s : State} (h : s.route.Sound) {anchor : BitVec 32} {records : List SegmentPayload}
    (ha : s.route.anchored = false ∨ anchor.toNat = s.route.endChainage)
    (hgood : RecordsInRange anchor.toNat records) (hfree : ¬ s.route.free < records.length) :
    (s.append anchor.toNat records).route.Sound where
  fits := by
    have hfits := h.fits
    unfold RouteQueue.free at hfree
    simp [append]; omega
  chained := by
    have joined := hgood.chained
    rw [← appendEnd_eq] at joined
    cases hn : s.route.anchored with
    | false =>
      obtain ⟨hring, -⟩ := h.unanchored hn
      simpa [append, hn, hring] using joined
    | true =>
      have hend := ha.resolve_left (by simp [hn])
      rw [hend] at joined
      simpa [append, hn, hend] using h.chained.append joined
  bounded := by
    have hlt := anchor.isLt
    have := hgood.end_le (by unfold maxChainage; omega)
    rwa [← appendEnd_eq] at this
  unanchored hn := nomatch hn

theorem requestRouteAppend_routeSound {s : State} (h : s.route.Sound) (anchor : BitVec 32)
    (records : List SegmentPayload) : (requestRouteAppend anchor records s).state.route.Sound := by
  unfold requestRouteAppend
  split
  · exact h
  · split
    · exact h
    · split
      · exact h
      · next ha =>
        split
        · exact h
        · next hgood =>
          split
          · exact h
          · next hfree =>
            refine State.retireSegments_sound (State.append_routeSound h ?_ (recordsInRange_of_firstBadRecord hgood) hfree)
            cases hn : s.route.anchored with
            | false => exact .inl rfl
            | true => exact .inr (by simpa [hn] using ha)

theorem State.truncate_routeSound {s : State} (h : s.route.Sound) {x : BitVec 32}
    (hb : s.route.boundary x.toNat = true) : (s.truncate x.toNat).route.Sound := by
  obtain ⟨ha, hx⟩ := (s.route.boundary_iff x.toNat).mp hb
  have hlt := x.isLt
  exact
    { fits := Nat.le_trans (List.length_filter_le _ _) h.fits
      chained := h.chained.cut hx
      bounded := by simp [truncate, maxChainage]; omega
      unanchored := fun hn => by rw [show s.route.anchored = false from hn] at ha; cases ha }

theorem requestRouteTruncate_routeSound {s : State} (h : s.route.Sound) (x : BitVec 32) :
    (requestRouteTruncate x s).state.route.Sound := by
  unfold requestRouteTruncate
  split
  · next hb =>
    split
    · split
      · exact h
      · exact State.truncate_routeSound h hb
    · exact State.truncate_routeSound h hb
  · exact h

theorem RouteQueue.reset_sound : RouteQueue.reset.Sound := State.reset_routeSound

theorem releaseCars_route (l : List CarId) (s : State) (n : Nat) : (releaseCars l s n).1.route = s.route := by
  induction l generalizing s n with
  | nil => rfl
  | cons i l ih =>
    unfold releaseCars
    split
    · rw [ih]; simp
    · exact ih _ _

theorem requestPositionFix_routeSound {s : State} (h : s.route.Sound) (n : Byte) (x : BitVec 32) :
    (requestPositionFix n x s).state.route.Sound := by
  cases hf : findCapture n s.odo.captures with
  | none => rw [requestPositionFix_missing hf]; exact h
  | some found =>
    obtain ⟨captured, newer⟩ := found
    rw [requestPositionFix_found hf, Answer.done_state]
    generalize (x.toNat - captured : Int) = c
    have moved : (s.fixMoved c newer).route.Sound := State.movePosition_routeSound (by exact h) _ _
    have hroute : (s.fixApplied c newer).route = (s.fixMoved c newer).route := by
      unfold State.fixApplied State.fixReported; split <;> simp
    rw [hroute]
    exact moved

/-- Every request keeps the queue sound. -/
theorem request_routeSound {c : Instr} {k tag : Byte} {m : State → Answer} {s : State}
    (hm : requestMeaning c = some (k, tag, m)) (h : s.route.Sound) : (m s).state.route.Sound := by
  have left : ∀ {t : State}, t.route = s.route → t.route.Sound := fun e => e ▸ h
  cases c <;> simp only [requestMeaning, reduceCtorEq, Option.some.injEq, Prod.mk.injEq] at hm <;>
    obtain ⟨-, -, rfl⟩ := hm
  case identify => exact h
  case configureTrain g p =>
    unfold requestConfigureTrain
    split
    · exact h
    · split
      · exact h
      · refine left ?_
        rw [Answer.done_state, (State.leaveToNextCycle_frame _ _).2.2.1,
          foldl_view (fun s : State => s.route) State.forgetCar (fun s i => by simp),
          foldl_view (fun s : State => s.route) State.recount (fun s i => by simp)]
  case setTiltLaw g p =>
    unfold requestSetTiltLaw
    split
    · exact h
    · refine left ?_
      rw [Answer.done_state, foldl_view (fun s : State => s.route) State.stageCar (fun s i => by simp)]
  case setTrainSet g p =>
    unfold requestSetTrainSet
    split
    · exact h
    · rw [Answer.done_state]; split <;> exact h
  case setModeRun g =>
    unfold requestSetModeRun
    (repeat' split) <;> exact left (by simp)
  case setModeConfig g =>
    unfold requestSetModeConfig
    split
    · refine left ?_
      rw [Answer.done_state, State.settle_route,
        foldl_view (fun s : State => s.route) State.drainCar (fun s i => by simp), State.changeMode_route]
    · exact h
    · exact h
  case setPosition g x =>
    unfold requestSetPosition
    split
    · exact h
    · split
      · exact h
      · exact State.movePosition_routeSound (by exact h) _ _
  case positionFix g n x => exact requestPositionFix_routeSound h n x
  case routeAppend g a rs => exact requestRouteAppend_routeSound h a rs
  case routeTruncate g x => exact requestRouteTruncate_routeSound h x
  case routeClear g => exact RouteQueue.reset_sound
  case routeConfirm g =>
    unfold requestRouteConfirm
    split
    · exact h.leaves (s := s) ⟨rfl, rfl, rfl, rfl, fun _ => ⟨rfl, rfl, rfl, rfl⟩⟩
    · exact h
  case resume g x =>
    unfold requestResume
    (repeat' split)
    · exact left (releaseCars_route _ _ _)
    all_goals exact left (by simp)
  case resumeAll g => exact left (releaseCars_route _ _ _)
  case readmit g x =>
    unfold requestReadmit
    (repeat' split) <;> exact left (by simp)
  case queryTrain g => exact h
  case queryCar g x =>
    unfold requestQueryCar
    split <;> exact h
  case queryRoute g x =>
    unfold requestQueryRoute
    split <;> exact h
  case restart g =>
    unfold requestRestart
    split <;> exact h

/-! ## Every step -/

theorem execTachoPulse_routeSound {dt held : Nat} {ch : Tacho} {fell : Bool} {s t : State}
    (he : execTachoPulse dt ch fell held s = .next t) (h : s.route.Sound) : t.route.Sound := by
  have set : ∀ (u : State) (x : TachoChannel), u.route.Sound → (u.setTacho ch x).route.Sound := by
    intro u x hu; rw [(State.setTacho_frame _ _ _).2.1]; exact hu
  have pulsed : (s.pulsed dt held ch).route.Sound := set _ _ h
  by_cases hs : (s.after dt).edgeSeen ch fell held = true
  · by_cases hh : 20 ≤ held
    · rw [execTachoPulse_accepted hs hh] at he
      injection he with he; subst he
      split
      · obtain ⟨p, r, e, -⟩ := (s.pulsed dt held ch).advance_moves (s.unit.settings.dpp ch)
        rw [e]
        exact State.movePosition_routeSound pulsed p r
      · exact pulsed
    · rw [execTachoPulse_short hs (by omega)] at he
      injection he with he; subst he
      exact set _ _ h
  · rw [execTachoPulse_unseen hs] at he
    injection he with he; subst he
    exact h

theorem exec_routeSound {c : Instr} {s t : State} (he : exec c s = .next t) (h : s.route.Sound) : t.route.Sound := by
  have control := fun hc => keeps_control (P := fun s => s.route.Sound) (fun _ _ h => h)
    (fun _ _ _ _ _ hm h => request_routeSound hm h) (fun s h => by rw [(State.heardFrame_frame s).2.2.1]; exact h)
    (fun _ _ _ h => h) (fun s _ => by rw [s.restart_eq]; exact RouteQueue.reset_sound) c hc he h
  have left := fun hc => (exec_route he hc) ▸ h
  cases c
  case hardwareReset b =>
    injection he with he; subst he
    unfold State.postStarted
    rw [State.post_route]
    exact RouteQueue.reset_sound
  case tachoPulse => exact execTachoPulse_routeSound he h
  case controlFrame => exact h.leaves (execControlFrame_leavesChain he)
  case turnWaitLimit => exact h.leaves (execTurnWaitLimit_leavesChain he)
  case replyWindowClose => exact h.leaves (execReplyWindowClose_leavesChain he)
  case statusReception => exact h.leaves (execStatusReception_leavesChain he)
  case tachoStall | comparisonWindow | markerPulse | inhibitSet | inhibitClear | clockWindow | linkSilentOnset
    | pollCycleExpiry | setpointSend | setpointSent => exact left (by simp)
  all_goals exact control (by simp [requestMeaning])

/-- Settles O54: retirement, an append and a truncation cut or lengthen the chain at its ends, a clear and the two
starts empty it, and every other event leaves it. -/
theorem routeQueueStaysSound : Obligations.RouteQueueStaysSound := by
  intro s t hstep h
  rcases step_cases hstep with ⟨c, rest, -, he⟩ | ⟨c, -, -, he⟩ | ⟨-, -, rfl⟩
  · exact exec_routeSound he h
  · exact exec_routeSound he h
  · exact h

end Sys2Proof.Machine
end

section
/-! SUPPORT. The evaluation of a lead point, interpolation and rounding, and the reports (O30, O31, O36). -/

namespace Sys2Proof.Machine

/-! ## The lead point -/

/-- R44: the latch, and the notice when it was clear. -/
theorem State.lowWaterTest_spec (s : State) (p : Nat) :
    let low := s.route.endChainage - p < s.unit.trainSet.lowWater
    s.lowWaterTest p = { s with
        route := { s.route with lowLatch := s.route.lowLatch || decide low }, ctl := (s.lowWaterTest p).ctl }
      ∧ s.ctl.Reports (s.lowWaterTest p).ctl []
        (if low ∧ s.route.lowLatch = false then
          [s.notice .routeLow none (u16 (min 32767 ((s.route.endChainage - p) / 100))) (u16 s.route.ring.length)]
        else []) := by
  unfold lowWaterTest leadDistance
  dsimp only
  by_cases h : s.route.endChainage - p < s.unit.trainSet.lowWater ∧ s.route.lowLatch = false
  · rw [if_pos h, if_pos h]
    refine ⟨?_, s.post_reports _ _ _ _⟩
    rw [post_route, post_eq]
    simp [h.1]
  · rw [if_neg h, if_neg h]
    refine ⟨?_, .refl _⟩
    have hlatch : (s.route.lowLatch || decide (s.route.endChainage - p < s.unit.trainSet.lowWater)) = s.route.lowLatch := by
      cases hl : s.route.lowLatch <;> simp_all
    rw [hlatch]

/-- R45: the latch, and the notice when it was clear. -/
theorem State.exhaustedTest_spec (s : State) (p : Nat) :
    s.exhaustedTest p = { s with
        route := { s.route with exhaustedLatch := s.route.exhaustedLatch || decide (s.route.endChainage ≤ p) }
        ctl := (s.exhaustedTest p).ctl }
      ∧ s.ctl.Reports (s.exhaustedTest p).ctl []
        (if s.route.endChainage ≤ p ∧ s.route.exhaustedLatch = false then
          [s.notice .routeExhausted none (u16 s.route.ring.length) 0] else []) := by
  unfold exhaustedTest
  dsimp only
  by_cases h : s.route.endChainage ≤ p ∧ s.route.exhaustedLatch = false
  · rw [if_pos h, if_pos h]
    refine ⟨?_, s.post_reports _ _ _ _⟩
    rw [post_route, post_eq]
    simp [h.1]
  · rw [if_neg h, if_neg h]
    refine ⟨?_, .refl _⟩
    have hlatch : (s.route.exhaustedLatch || decide (s.route.endChainage ≤ p)) = s.route.exhaustedLatch := by
      cases hl : s.route.exhaustedLatch <;> simp_all
    rw [hlatch]

/-- The evaluation of a lead point of an anchored queue (R43 to R46). -/
theorem State.evaluateLead_spec {s : State} (h : s.route.anchored = true) (p : Nat) :
    s.evaluateLead (some p) = { s with
        route := { s.route with
          lastLead := some p
          lowLatch := s.route.lowLatch || decide (s.route.endChainage - p < s.unit.trainSet.lowWater)
          exhaustedLatch := s.route.exhaustedLatch || decide (s.route.endChainage ≤ p) }
        ctl := (s.evaluateLead (some p)).ctl }
      ∧ s.ctl.Reports (s.evaluateLead (some p)).ctl [] (s.leadNotices p) := by
  let recorded : State := { s with route := { s.route with lastLead := some p } }
  have e : s.evaluateLead (some p) = (recorded.lowWaterTest p).exhaustedTest p := by
    unfold evaluateLead; exact if_pos h
  obtain ⟨e₁, r₁⟩ := recorded.lowWaterTest_spec p
  obtain ⟨e₂, r₂⟩ := (recorded.lowWaterTest p).exhaustedTest_spec p
  rw [e]
  generalize (recorded.lowWaterTest p).exhaustedTest p = t at e₂ r₂
  generalize recorded.lowWaterTest p = m at e₁ e₂ r₁ r₂
  refine ⟨?_, ?_⟩
  · rw [e₂, e₁]
  · have r := r₁.trans r₂
    rw [e₁] at r
    exact r

/-- Settles O30, from the two tests. -/
theorem leadPointEvaluated : Obligations.LeadPointEvaluated := by
  intro p s
  exact ⟨fun h => State.evaluateLead_unanchored h _, fun h => State.evaluateLead_spec h p⟩

/-! ## Interpolation and rounding -/

/-- A division that truncates toward zero leaves less than the divisor, the quotient and the rest being of the
dividend's sign. -/
theorem tdiv_rest (z : Int) {n : Nat} (h : 0 < n) :
    ∃ r, z = z.tdiv n * n + r ∧ r.natAbs < n ∧ (0 ≤ z → 0 ≤ z.tdiv n ∧ 0 ≤ r) ∧ (z ≤ 0 → z.tdiv n ≤ 0 ∧ r ≤ 0) := by
  have hsum := Int.tdiv_mul_add_tmod z n
  refine ⟨z.tmod n, hsum.symm, ?_, fun hz => ⟨Int.tdiv_nonneg hz (by omega), Int.tmod_nonneg _ hz⟩, fun hz => ?_⟩
  · have := Int.natAbs_tmod z n
    rw [this]
    exact Nat.mod_lt _ h
  · have hq := Int.tdiv_nonneg (a := -z) (b := n) (by omega) (by omega)
    have hr := Int.tmod_nonneg (n : Int) (a := -z) (by omega)
    rw [Int.neg_tdiv] at hq
    rw [Int.neg_tmod] at hr
    omega

/-- An interpolated value lies within a unit of its place, on the start's side of it, and between the two ends (R30). -/
theorem interpolate_between (first last : Int) {along length : Nat} (h : along < length) :
    let value := interpolate first last along length
    let part := (value - first) * length
    let whole := (last - first) * along
    (whole - part).natAbs < length ∧ part.natAbs ≤ whole.natAbs ∧ 0 ≤ part * whole
      ∧ min first last ≤ value ∧ value ≤ max first last := by
  intro value part whole
  obtain ⟨r, hz, hr, hpos, hneg⟩ := tdiv_rest whole (show 0 < length by omega)
  have hvalue : value = first + whole.tdiv length := rfl
  have hpart : part = whole.tdiv length * length := by simp only [part, hvalue]; ring
  generalize whole.tdiv length = q at hz hpos hneg hvalue hpart
  rw [← hpart] at hz
  refine ⟨by omega, ?_⟩
  rcases Int.le_total 0 (last - first) with hd | hd
  · have hwhole : 0 ≤ whole := Int.mul_nonneg hd (by omega)
    obtain ⟨hq, hr₀⟩ := hpos hwhole
    have hpart₀ : 0 ≤ part := hpart ▸ Int.mul_nonneg hq (by omega)
    have hqd : q * length ≤ (last - first) * length :=
      calc q * length ≤ whole := by omega
        _ ≤ (last - first) * length := Int.mul_le_mul_of_nonneg_left (by omega) hd
    have := Int.le_of_mul_le_mul_right hqd (by omega)
    exact ⟨by omega, Int.mul_nonneg hpart₀ hwhole, by omega, by omega⟩
  · have hwhole : whole ≤ 0 := Int.mul_nonpos_of_nonpos_of_nonneg hd (by omega)
    obtain ⟨hq, hr₀⟩ := hneg hwhole
    have hpart₀ : part ≤ 0 := hpart ▸ Int.mul_nonpos_of_nonpos_of_nonneg hq (by omega)
    have hqd : (last - first) * length ≤ q * length :=
      calc (last - first) * length ≤ whole := Int.mul_le_mul_of_nonpos_left hd (by omega)
        _ ≤ q * length := by omega
    have := Int.le_of_mul_le_mul_right hqd (by omega)
    exact ⟨by omega, Int.mul_nonneg_of_nonpos_of_nonpos hpart₀ hwhole, by omega, by omega⟩

theorem interpolate_start (first last : Int) (length : Nat) : interpolate first last 0 length = first := by
  simp [interpolate]

/-- The command in cdeg is the nearest whole number, a half going away from zero (R77). -/
theorem roundCdeg_nearest (theta : Int) :
    2 * (theta - 100 * roundCdeg theta).natAbs ≤ 100
      ∧ (2 * (theta - 100 * roundCdeg theta).natAbs = 100 → theta.natAbs < 100 * (roundCdeg theta).natAbs) := by
  obtain ⟨r, hz, hr, hpos, hneg⟩ := tdiv_rest (theta + 50 * sign theta) (show 0 < 100 by decide)
  unfold roundCdeg
  simp only [Nat.cast_ofNat] at hz hpos hneg
  generalize (theta + 50 * sign theta).tdiv 100 = c at hz hpos hneg
  unfold sign at hz hpos hneg
  split at hz
  · omega
  · split at hz <;> omega

theorem roundCdeg_neg (theta : Int) : roundCdeg (-theta) = -roundCdeg theta := by
  unfold roundCdeg
  rw [sign_neg, ← Int.neg_tdiv]
  congr 1
  ring

/-- Settles O36, from the value and the rest of a division that truncates toward zero. -/
theorem interpolationAndRounding : Obligations.InterpolationAndRounding := by
  refine ⟨fun g p hlo hhi => ?_, fun theta tiltMax => ?_⟩
  · have halong : p - g.start < g.length := by omega
    refine ⟨interpolate_between _ _ halong, interpolate_between _ _ halong, fun hp => ?_⟩
    unfold Segment.curvature Segment.cant
    rw [show p - g.start = 0 by omega]
    exact ⟨interpolate_start _ _ _, interpolate_start _ _ _⟩
  · obtain ⟨hnear, hhalf⟩ := roundCdeg_nearest theta
    exact ⟨hnear, hhalf, fun _ => by omega, roundCdeg_neg theta⟩

/-! ## The reports -/

theorem State.namedCar_some {s : State} {car : Byte} {i : CarId} (h : i.val = car.toNat)
    (hi : i.val < s.unit.settings.carCount) : s.namedCar car = some i := by
  unfold namedCar
  cases hf : s.configured.find? (fun i => i.val == car.toNat) with
  | none =>
    have := List.find?_eq_none.mp hf i (by simp [configured, mem_allCars, hi])
    simp [h] at this
  | some j =>
    have := List.find?_some hf
    simp only [beq_iff_eq] at this
    rw [Fin.ext (this.trans h.symm)]

theorem State.namedCar_none {s : State} {car : Byte} (h : s.unit.settings.carCount ≤ car.toNat ∨ 8 ≤ car.toNat) :
    s.namedCar car = none := by
  unfold namedCar
  refine List.find?_eq_none.mpr fun i hi => ?_
  simp [configured] at hi
  simp; omega

/-- The measured values of the last good reply, as the report carries them (R125). -/
theorem Drive.measured_bytes (d : Drive) :
    bytes16 (s16 d.measured.1) ++ bytes16 (s16 d.measured.2)
      = match d.lastGood with
        | some g => bytes16 (BitVec.ofInt 16 g.tilt) ++ bytes16 (BitVec.ofInt 16 g.lateral)
        | none => [0, 0, 0, 0] := by
  unfold measured
  cases d.lastGood <;> rfl

/-- Settles O31, report by report. -/
theorem reportsAnswered : Obligations.ReportsAnswered := by
  intro tag s hready u16' i16 u32' u8 flag r head stop record
  refine ⟨exec_ready (c := .identify tag) rfl hready, ?_, fun car i hcar hi => ?_, fun car hcar => ?_, fun index h => ?_,
    fun index h => ?_⟩
  · rw [exec_ready (c := .queryTrain tag) rfl hready]
    rfl
  · rw [exec_ready (c := .queryCar tag car) rfl hready, requestQueryCar, State.namedCar_some hcar hi]
    dsimp only [Answer.done, State.carReport]
    rw [List.append_assoc _ (bytes16 (s16 s.link.drives[i].measured.1)), Drive.measured_bytes]
    rfl
  · rw [exec_ready (c := .queryCar tag car) rfl hready, requestQueryCar, State.namedCar_none hcar]
    rfl
  · rw [exec_ready (c := .queryRoute tag index) rfl hready, requestQueryRoute, if_neg (Nat.not_lt.mpr h)]
    rfl
  · rw [exec_ready (c := .queryRoute tag index) rfl hready, requestQueryRoute, if_pos h]
    rfl

end Sys2Proof.Machine
end

section
/-! SUPPORT. A confirmed mismatch: the reaction of its car, the table it consults, and ROUTE_DOUBT (O51). -/

namespace Sys2Proof.Machine

/-! ## The table -/

/-- The oldest record of another car within the window (R138). -/
theorem State.matching_some {s : State} {i : CarId} {p : Nat} {older newer : List Mismatch} {m : Mismatch}
    (h : s.sup.mismatches = older ++ m :: newer) (holder : ∀ o ∈ older, o.car = i ∨ ¬ s.nearby o.chainage p = true)
    (hcar : m.car ≠ i) (hm : s.nearby m.chainage p = true) : s.matching i p = some m := by
  refine List.find?_eq_some_iff_append.mpr ⟨by simp [hcar, hm], older, newer, h, fun o ho => ?_⟩
  rcases holder o ho with h | h <;> simp [h]

theorem State.matching_none {s : State} {i : CarId} {p : Nat}
    (h : ∀ m ∈ s.sup.mismatches, s.nearby m.chainage p = true → m.car = i) : s.matching i p = none := by
  refine List.find?_eq_none.mpr fun m hm => ?_
  by_cases hn : s.nearby m.chainage p = true
  · simp [h m hm hn]
  · simp [hn]

/-- A match raises ROUTE_DOUBT (R138, R143). -/
theorem State.consult_match {s : State} {i : CarId} {p : Nat} {m : Mismatch} (h : s.matching i p = some m) :
    s.consult i p = s.raiseDoubt i m.car ((p : Int) - m.chainage) := by
  unfold consult; rw [h]

/-- A near record of the car's own leaves the table (R139). -/
theorem State.consult_own {s : State} {i : CarId} {p : Nat}
    (h : ∀ m ∈ s.sup.mismatches, s.nearby m.chainage p = true → m.car = i)
    (hn : ∃ m ∈ s.sup.mismatches, s.nearby m.chainage p = true) : s.consult i p = s := by
  unfold consult
  rw [matching_none h]
  exact if_pos (List.any_eq_true.mpr hn)

/-- With no near record the new one joins, the oldest of four making room (R139). -/
theorem State.consult_join {s : State} {i : CarId} {p : Nat}
    (h : ∀ m ∈ s.sup.mismatches, ¬ s.nearby m.chainage p = true) :
    s.consult i p = { s with sup := { s.sup with mismatches :=
      (if s.sup.mismatches.length < 4 then s.sup.mismatches else s.sup.mismatches.tail) ++ [⟨p, i⟩] } } := by
  unfold consult
  rw [matching_none fun m hm hn => absurd hn (h m hm)]
  have hany : ¬ s.sup.mismatches.any (fun m => s.nearby m.chainage p) = true := by
    rw [List.any_eq_true]
    rintro ⟨m, hm, hn⟩
    exact h m hm hn
  dsimp only
  rw [if_neg hany, insertMismatch, List.drop_one]

/-! ## ROUTE_DOUBT -/

theorem State.raiseDoubt_again {s : State} (h : s.route.doubt = true) (i j : CarId) (d : Int) :
    s.raiseDoubt i j d = s := by
  rw [raiseDoubt, if_pos h]

/-- ROUTE_DOUBT is set and told, and every TRACKING car goes RETURNING (R41, R91). -/
theorem State.raiseDoubt_spec {s : State} (h : s.route.doubt = false) (ht : s.TrackingConfigured) (i j : CarId)
    (d : Int) :
    s.raiseDoubt i j d = { s with
        route := { s.route with doubt := true }, cars := s.cars.map CarChannel.centred
        ctl := (s.raiseDoubt i j d).ctl }
      ∧ s.ctl.Reports (s.raiseDoubt i j d).ctl [] (s.notice .routeDoubt (some i) (u16 j.val) (held16 d)
          :: s.trackingCars.map (fun k => s.carNotice k .returning .routeDoubt)) := by
  let doubted : State := { s with route := { s.route with doubt := true } }
  have e : s.raiseDoubt i j d
      = (doubted.post .routeDoubt (some i) (u16 j.val) (held16 d)).centreAll .routeDoubt := by
    rw [raiseDoubt, if_neg (by simp [h])]
  have hpost := doubted.post_eq .routeDoubt (some i) (u16 j.val) (held16 d)
  have rpost := doubted.post_reports .routeDoubt (some i) (u16 j.val) (held16 d)
  rw [e]
  generalize doubted.post .routeDoubt (some i) (u16 j.val) (held16 d) = told at hpost rpost
  have htold : told.TrackingConfigured := by rw [hpost]; exact ht
  obtain ⟨ecentre, rcentre⟩ := told.centreAll_spec .routeDoubt htold
  generalize told.centreAll .routeDoubt = t at ecentre rcentre
  have r := rpost.trans rcentre
  rw [hpost] at ecentre r
  exact ⟨ecentre, r⟩

/-! ## The reaction -/

/-- A car-level cause leaves no car TRACKING (R91). -/
theorem CarChannel.caused_state (c : CarChannel) (cause : LatchReason) (reaction : Reaction) :
    (c.caused cause reaction).state ≠ .tracking := by
  unfold caused into
  cases hs : c.state <;> dsimp only <;> (try split) <;> simp [hs]

/-- The record of the car suspended and reacting to a confirmed mismatch (R135). -/
def State.mismatchRecord (s : State) (i : CarId) : CarChannel :=
  CarChannel.caused { s.cars[i] with supervision := true } .supervision s.unit.settings.supervisionReaction

/-- The state after the reaction to a confirmed mismatch, before its notices (R135). -/
def State.mismatchReacted (s : State) (i : CarId) : State :=
  { s with
    cars := s.cars.set i (s.mismatchRecord i)
    sup := { s.sup with persistence := s.sup.persistence.set i 0, suspended := s.sup.suspended.set i true } }

/-- The notices of a confirmed mismatch before the table is consulted (R109, R147). -/
def State.mismatchTold (s : State) (i : CarId) (residual predicted : Int) : List Notice :=
  (if (s.mismatchRecord i).state = s.cars[i].state then []
    else [s.carNotice i (s.mismatchRecord i).state .supervision])
    ++ [s.notice .mismatch (some i) (held16 residual) (held16 predicted)]

theorem State.setSuspended_state (s : State) (i j : CarId) (b : Bool) :
    (s.setSuspended i b).cars[j].state = s.cars[j].state := by
  rw [setSuspended_car]
  split
  · next h => rw [h]
  · rfl

theorem State.mismatchReacted_tracking {s : State} (h : s.TrackingConfigured) (i : CarId) :
    (s.mismatchReacted i).TrackingConfigured := by
  intro hm j hj
  refine h hm j ?_
  rw [show (s.mismatchReacted i).cars[j] = (s.setCar i (s.mismatchRecord i)).cars[j] from rfl, setCar_get] at hj
  split at hj
  · exact absurd hj (CarChannel.caused_state _ _ _)
  · exact hj

/-- The steps of R135 before the table is consulted. -/
theorem State.confirmMismatch_consults {s : State} (h : s.CarsSound) (i : CarId) (p : Nat) (residual predicted : Int) :
    ∃ told : State, s.confirmMismatch i p residual predicted = told.consult i p
      ∧ told = { s.mismatchReacted i with ctl := told.ctl }
      ∧ s.ctl.Reports told.ctl [] (s.mismatchTold i residual predicted) := by
  let suspended : State := (s.setPersistence i 0).setSuspended i true
  have hstate : ∀ j : CarId, suspended.cars[j].state = s.cars[j].state :=
    fun j => (s.setPersistence i 0).setSuspended_state i j true
  have hrecord : suspended.cars[i] = { s.cars[i] with supervision := true } := by
    rw [setSuspended_car, if_pos rfl]; rfl
  have htracking : suspended.TrackingConfigured := by
    intro hm j hj
    rw [hstate] at hj
    exact h.trackingConfigured hm j hj
  have hdrain : suspended.unit.mode = .draining → suspended.drainComplete = false := by
    intro hm
    obtain ⟨j, hj, hn⟩ := s.drainComplete_false.mp (h.draining hm)
    exact suspended.drainComplete_false.mpr ⟨j, hj, by rw [hstate]; exact hn⟩
  obtain ⟨ecause, rcause⟩ :=
    suspended.carCause_spec i .supervision s.unit.settings.supervisionReaction htracking hdrain
  have e : s.confirmMismatch i p residual predicted
      = ((suspended.carCause i .supervision s.unit.settings.supervisionReaction).post .mismatch (some i)
          (held16 residual) (held16 predicted)).consult i p := rfl
  rw [e]
  generalize suspended.carCause i .supervision s.unit.settings.supervisionReaction = caused at ecause rcause
  have hcaused : caused = { s.mismatchReacted i with ctl := caused.ctl } := by
    refine ecause.trans ?_
    rw [hrecord]
    simp only [suspended, setSuspended, setPersistence, Vector.set_set, mismatchReacted, mismatchRecord]
  have hnotice : caused.notice = s.notice := by rw [hcaused]; rfl
  refine ⟨_, rfl, ?_, ?_⟩
  · rw [post_eq, hcaused]
  · have r := rcause.trans (caused.post_reports .mismatch (some i) (held16 residual) (held16 predicted))
    rw [hrecord, hnotice] at r
    exact r

/-- Settles O51: the reaction, then the three outcomes of the consultation. -/
theorem mismatchConfirmed : Obligations.MismatchConfirmed := by
  intro i p residual predicted s h t r caused reacted told near
  obtain ⟨w, e, hw, rep⟩ := s.confirmMismatch_consults h i p residual predicted
  have ht : t = w.consult i p := e
  have htable : w.sup.mismatches = s.sup.mismatches := by rw [hw]; rfl
  have hroute : w.route = s.route := by rw [hw]; rfl
  have hnear : ∀ m : Mismatch, w.nearby m.chainage p = true ↔ near m := by
    intro m
    rw [State.nearby, show w.unit = s.unit by rw [hw]; rfl, decide_eq_true_eq]
  have quiet : ∀ {u : State}, u = w → u = { reacted with ctl := u.ctl } ∧ s.ctl.Reports u.ctl [] told :=
    fun hu => hu ▸ ⟨hw, rep⟩
  refine ⟨fun older newer m htab holder hcar hm => ?_, fun hown hnear' => ?_, fun hnone => ?_⟩
  · have hmatch : w.matching i p = some m :=
      State.matching_some (htable.trans htab) (fun o ho => by rw [hnear]; exact holder o ho) hcar ((hnear m).mpr hm)
    rw [State.consult_match hmatch] at ht
    refine ⟨fun hd => ?_, fun hd => ?_⟩
    · exact quiet (ht.trans (State.raiseDoubt_again (hroute ▸ hd) _ _ _))
    · have htracking : w.TrackingConfigured := by
        rw [hw]; exact State.mismatchReacted_tracking h.trackingConfigured i
      obtain ⟨edoubt, rdoubt⟩ := State.raiseDoubt_spec (hroute ▸ hd) htracking i m.car ((p : Int) - m.chainage)
      rw [← ht] at edoubt rdoubt
      have rall := rep.trans rdoubt
      generalize hc : t.ctl = c at edoubt rall ⊢
      rw [hw] at edoubt rall
      exact ⟨edoubt, rall⟩
  · obtain ⟨m, hm, hmn⟩ := hnear'
    refine quiet (ht.trans (State.consult_own (fun m hm hn => ?_) ⟨m, htable ▸ hm, (hnear m).mpr hmn⟩))
    exact hown m (htable ▸ hm) ((hnear m).mp hn)
  · rw [State.consult_join fun m hm hn => hnone m (htable ▸ hm) ((hnear m).mp hn), htable] at ht
    refine ⟨?_, ?_⟩
    · rw [ht, hw]; rfl
    · rw [ht]; exact rep

end Sys2Proof.Machine
end

section
/-! SUPPORT. One car's turn in a control frame: its law, its report, and its one state test, as changes of its record
(R54, R88, R93, R94, R97, R99, R100). -/

namespace Sys2Proof.Machine

/-! ## A change of state -/

/-- Every configured car counts as done with these records (R100). -/
def State.doneIn (s : State) (cars : Vector CarChannel 8) : Bool := s.configured.all (fun j => cars[j].state.drained)

theorem State.doneIn_iff (s : State) (cars : Vector CarChannel 8) :
    s.doneIn cars = true ↔ ∀ j ∈ s.configured, cars[j].state.drained = true := by
  simp [doneIn, -Fin.getElem_fin]

theorem State.drainComplete_eq (s : State) : s.drainComplete = s.doneIn s.cars := rfl

theorem State.changeMode_eq (s : State) (m : Mode) :
    s.changeMode m = { s with unit := { s.unit with mode := m }, ctl := (s.changeMode m).ctl } :=
  post_eq { s with unit := { s.unit with mode := m } } _ _ _ _

/-- The completion test, told whole (R100, R169). -/
theorem State.settle_spec (s : State) :
    let ends := s.unit.mode = .draining ∧ s.drainComplete = true
    s.settle = { s with unit := { s.unit with mode := if ends then .config else s.unit.mode }, ctl := s.settle.ctl }
      ∧ s.ctl.Reports s.settle.ctl [] (if ends then [s.modeNotice .config .draining] else []) := by
  intro ends
  by_cases h : ends
  · have e : s.settle = s.changeMode .config := by
      unfold settle; rw [if_pos (by simp [h.1, h.2])]
    have r := s.changeMode_reports .config
    rw [h.1] at r
    rw [if_pos h, if_pos h, e]
    exact ⟨s.changeMode_eq .config, r⟩
  · have e : s.settle = s := s.settle_eq (by
      by_cases hm : s.unit.mode = .draining
      · exact .inr (by simpa [ends, hm] using h)
      · exact .inl hm)
    rw [if_neg h, if_neg h, e]
    exact ⟨rfl, .refl _⟩

/-- A change of a car's state, with the completion of a drain that it brings (R100, R109). -/
theorem State.transition_spec (s : State) (i : CarId) (st : CarState) (cause : CarCause) :
    let cars := s.cars.set i (s.cars[i].into st)
    let ends := s.unit.mode = .draining ∧ s.doneIn cars = true
    let t := s.transition i st cause
    t = { s with
        cars := cars, unit := { s.unit with mode := if ends then .config else s.unit.mode }, ctl := t.ctl }
      ∧ s.ctl.Reports t.ctl [] (s.carNotice i st cause :: if ends then [s.modeNotice .config .draining] else []) := by
  intro cars ends t
  have e := s.enter_eq i st cause
  have r := s.enter_reports i st cause
  obtain ⟨e', r'⟩ := (s.enter i st cause).settle_spec
  have ht : (s.enter i st cause).settle = t := rfl
  rw [ht] at e' r'
  generalize s.enter i st cause = u at e r e' r'
  have hends : (u.unit.mode = .draining ∧ u.drainComplete = true) = ends := by rw [e]; rfl
  have hmode : u.modeNotice .config .draining = s.modeNotice .config .draining := by rw [e]; rfl
  simp only [hends, hmode] at e' r'
  refine ⟨?_, r.trans r'⟩
  rw [e] at e'
  exact e'

/-! ## The law step -/

/-- The record after the law step of a frame (R97). -/
def State.lawRecord (s : State) (i : CarId) : CarChannel :=
  if s.cars[i].quiet && s.cars[i].generation != s.unit.stagedGeneration then s.withStagedLaw s.cars[i] else s.cars[i]

theorem State.lawRecord_state (s : State) (i : CarId) : (s.lawRecord i).state = s.cars[i].state := by
  unfold lawRecord; split <;> rfl

/-- The notice of the law step (R110). -/
def State.lawNotices (s : State) (i : CarId) : List Notice :=
  if s.cars[i].quiet ∧ s.cars[i].generation ≠ s.unit.stagedGeneration then
    [s.notice .paramApplied (some i) s.unit.stagedGeneration (u16 s.cars[i].state.code)] else []

theorem State.frameLaw_spec (s : State) (i : CarId) :
    s.frameLaw i = { s with cars := s.cars.set i (s.lawRecord i), ctl := (s.frameLaw i).ctl }
      ∧ s.ctl.Reports (s.frameLaw i).ctl [] (s.lawNotices i) := by
  unfold frameLaw lawRecord lawNotices
  by_cases h : s.cars[i].quiet = true ∧ s.cars[i].generation ≠ s.unit.stagedGeneration
  · have hb : (s.cars[i].quiet && s.cars[i].generation != s.unit.stagedGeneration) = true := by
      simpa [-Fin.getElem_fin] using h
    rw [if_pos hb, if_pos hb, if_pos h]
    exact ⟨(s.copyLaw i).post_eq _ _ _ _, (s.copyLaw i).post_reports _ _ _ _⟩
  · have hb : ¬ (s.cars[i].quiet && s.cars[i].generation != s.unit.stagedGeneration) = true := by
      simpa [-Fin.getElem_fin] using h
    rw [if_neg hb, if_neg hb, if_neg h]
    refine ⟨?_, .refl _⟩
    simp

/-! ## The report -/

theorem laterPoint_none (p : Option Nat) : laterPoint p none = p := by cases p <;> rfl

/-- A report raises the commit point of an anchored queue (R34, R54). -/
theorem State.report_eq (s : State) (d : Demand) :
    s.report d = { s with route := { s.route with
      commit := if s.route.anchored then laterPoint s.route.commit d.lookAhead else s.route.commit } } := by
  cases ha : s.route.anchored with
  | false => rw [report_unanchored ha]; rfl
  | true =>
    unfold report reportLookAhead
    cases hd : d.lookAhead with
    | none => rw [laterPoint_none]; rfl
    | some p =>
      dsimp only
      rw [if_pos ha, if_pos rfl, ha]
      cases s.route.commit <;> rfl

/-! ## The state test -/

/-- What the state test of a frame makes of a record (R93, R94, R99). -/
def State.testedRecord (s : State) (c : CarChannel) : CarChannel :=
  if c.state = .returning ∧ c.quiet then c.into (if c.latchReason.isSome then .latched else .centred)
  else if c.state = .centred ∧ s.mayResume c then { c.into .tracking with supervision := false }
  else if c.state = .tracking ∧ s.unit.mode = .draining ∧ s.mustDrain c then c.into .returning
  else c

/-- The state test of a frame changes the record of its car to `r`: with a change of the state come its notice, the end
of a suspension when the car resumes, and the completion of a drain (R91, R99, R100, R109). -/
structure State.TurnsTo (s : State) (i : CarId) (r : CarChannel) (t : State) : Prop where
  eq : t = { s with
    cars := s.cars.set i r
    unit := { s.unit with mode :=
      if r.state ≠ s.cars[i].state ∧ s.unit.mode = .draining ∧ s.doneIn (s.cars.set i r) = true then .config
      else s.unit.mode }
    sup := { s.sup with suspended :=
      if s.cars[i].state ≠ .tracking ∧ r.state = .tracking then s.sup.suspended.set i false else s.sup.suspended }
    ctl := t.ctl }
  reports : s.ctl.Reports t.ctl []
    ((if r.state = s.cars[i].state then [] else [s.carNotice i r.state (frameCause r.state)])
      ++ if r.state ≠ s.cars[i].state ∧ s.unit.mode = .draining ∧ s.doneIn (s.cars.set i r) = true then
        [s.modeNotice .config .draining] else [])

theorem State.TurnsTo.same (s : State) (i : CarId) : s.TurnsTo i s.cars[i] s := by
  have hsup : ¬ (s.cars[i].state ≠ .tracking ∧ s.cars[i].state = .tracking) := fun h => h.1 h.2
  constructor
  · simp [-Fin.getElem_fin, hsup]
    simp
  · simpa [-Fin.getElem_fin] using ControlLink.Reports.refl s.ctl

theorem State.TurnsTo.transition {s : State} {i : CarId} {st : CarState} (h : st ≠ s.cars[i].state)
    (htracking : st ≠ .tracking) : s.TurnsTo i (s.cars[i].into st) (s.transition i st (frameCause st)) := by
  obtain ⟨e, r⟩ := s.transition_spec i st (frameCause st)
  have hstate : (s.cars[i].into st).state = st := rfl
  constructor
  · simpa [-Fin.getElem_fin, hstate, h, htracking] using e
  · simpa [-Fin.getElem_fin, hstate, h] using r

theorem State.TurnsTo.resume {s : State} {i : CarId} (h : s.cars[i].state = .centred) (hm : s.unit.mode = .run) :
    s.TurnsTo i { s.cars[i].into .tracking with supervision := false }
      ((s.setSuspended i false).transition i .tracking .resumed) := by
  obtain ⟨e, r⟩ := (s.setSuspended i false).transition_spec i .tracking .resumed
  have hrecord : (s.setSuspended i false).cars[i] = { s.cars[i] with supervision := false } := by
    rw [setSuspended_car, if_pos rfl]
  have hset : ∀ c, (s.setSuspended i false).cars.set i c = s.cars.set i c := by
    intro c; simp [setSuspended]
  rw [hrecord, hset] at e
  constructor
  · simpa [-Fin.getElem_fin, h, hm, CarChannel.into] using e
  · simpa [-Fin.getElem_fin, h, hm, CarChannel.into, carNotice, notice, frameCause] using r

theorem State.stateTest_turns (s : State) (i : CarId) : s.TurnsTo i (s.testedRecord s.cars[i]) (s.stateTest i) := by
  have same := TurnsTo.same s i
  unfold stateTest testedRecord
  cases hs : s.cars[i].state with
  | returning =>
    by_cases hq : s.cars[i].quiet = true
    · simp only [hq, if_true, and_self]
      cases hl : s.cars[i].latchReason.isSome
      · exact TurnsTo.transition (st := .centred) (by rw [hs]; decide) (by decide)
      · exact TurnsTo.transition (st := .latched) (by rw [hs]; decide) (by decide)
    · simp only [hq, if_false, and_false, reduceCtorEq, false_and]
      exact same
  | centred =>
    by_cases hr : s.resumes i = true
    · have hm : s.mayResume s.cars[i] = true := hr
      have hmode : s.unit.mode = .run := by
        simp only [mayResume, Bool.and_eq_true, beq_iff_eq] at hm
        exact hm.1.1.1.1.1
      simp only [hr, hm, if_true, if_false, and_self, reduceCtorEq, false_and]
      exact .resume hs hmode
    · have hm : ¬ s.mayResume s.cars[i] = true := hr
      simp only [hr, hm, if_false, and_false, reduceCtorEq, false_and]
      exact same
  | tracking =>
    by_cases hd : s.unit.mode = .draining ∧ s.mustDrain s.cars[i] = true
    · have hdrains : s.drains i = true := hd.2
      simp only [hd, if_true, if_false, and_self, reduceCtorEq, false_and, beq_self_eq_true, drainCar, hdrains,
        centreCar, hs]
      exact TurnsTo.transition (st := .returning) (by rw [hs]; decide) (by decide)
    · have hnone : (if s.unit.mode == .draining then s.drainCar i else s) = s := by
        split
        · next hm =>
          have hdrains : ¬ s.drains i = true := fun h => hd ⟨by simpa using hm, h⟩
          rw [drainCar, if_neg hdrains]
        · rfl
      simp only [hd, if_false, and_false, reduceCtorEq, false_and, hnone]
      exact same
  | offline | latched | isolated | probing =>
    simp only [if_false, reduceCtorEq, false_and]
    exact same

/-! ## The whole turn -/

theorem State.frameRecord_eq (s : State) (v : Nat) (i : CarId) :
    s.frameRecord v i = if (s.lawRecord i).state.computed then
        s.testedRecord (((s.lawRecord i).take ((s.setCar i (s.lawRecord i)).demand v i)).step s.unit.settings.tiltMax)
      else s.lawRecord i := rfl

theorem State.testedRecord_lookAhead (s : State) (c : CarChannel) :
    (s.testedRecord c).lastLookAhead = c.lastLookAhead := by
  unfold testedRecord
  (repeat' split) <;> rfl

/-- The look-ahead point that a car reports in a frame, from its record as the frame leaves it (R54). -/
def State.frameReport (s : State) (v : Nat) (i : CarId) : Option Nat :=
  if s.cars[i].state.computed then (s.frameRecord v i).lastLookAhead else none

theorem State.frameReport_eq (s : State) (v : Nat) (i : CarId) :
    s.frameReport v i
      = if s.cars[i].state.computed then ((s.setCar i (s.lawRecord i)).demand v i).lookAhead else none := by
  unfold frameReport
  split
  · next h => rw [frameRecord_eq, if_pos (by rw [lawRecord_state]; exact h), testedRecord_lookAhead]; rfl
  · rfl

/-- The notices of a car's turn in a frame, the records of the other cars being what they are when it comes (R97, R100,
R109, R110). -/
def State.carNotices (s : State) (v : Nat) (i : CarId) : List Notice :=
  s.lawNotices i
    ++ ((if (s.frameRecord v i).state = s.cars[i].state then []
        else [s.carNotice i (s.frameRecord v i).state (frameCause (s.frameRecord v i).state)])
      ++ if (s.frameRecord v i).state ≠ s.cars[i].state ∧ s.unit.mode = .draining
          ∧ s.doneIn (s.cars.set i (s.frameRecord v i)) = true then [s.modeNotice .config .draining] else [])

/-- A car's turn in a frame: its record becomes `State.frameRecord`, its report raises the commit point, and a change of
its state has its consequences (R88). -/
theorem State.frameCar_spec (s : State) (v : Nat) (i : CarId) :
    let r := s.frameRecord v i
    let t := s.frameCar v i
    t = { s with
        cars := s.cars.set i r
        unit := { s.unit with mode :=
          if r.state ≠ s.cars[i].state ∧ s.unit.mode = .draining ∧ s.doneIn (s.cars.set i r) = true then .config
          else s.unit.mode }
        sup := { s.sup with suspended :=
          if s.cars[i].state ≠ .tracking ∧ r.state = .tracking then s.sup.suspended.set i false
          else s.sup.suspended }
        route := { s.route with commit :=
          if s.route.anchored then laterPoint s.route.commit (s.frameReport v i) else s.route.commit }
        ctl := t.ctl }
      ∧ s.ctl.Reports t.ctl [] (s.carNotices v i) := by
  intro r t
  obtain ⟨elaw, rlaw⟩ := s.frameLaw_spec i
  have hget : (s.frameLaw i).cars[i] = s.lawRecord i := by rw [elaw]; simp
  have hset : ∀ c, (s.frameLaw i).cars.set i c = s.cars.set i c := by rw [elaw]; simp
  have hstate := s.lawRecord_state i
  by_cases hc : (s.lawRecord i).state.computed = true
  · let d := (s.setCar i (s.lawRecord i)).demand v i
    let c := ((s.lawRecord i).take d).step s.unit.settings.tiltMax
    let w := ((s.frameLaw i).report d).setCar i c
    have hd : (s.frameLaw i).demand v i = d := by rw [elaw]; rfl
    have ht : t = w.stateTest i := by
      change (if (s.frameLaw i).cars[i].state.computed then (s.frameLaw i).computeCar v i else _) = _
      rw [hget, if_pos hc, computeCar, hd, hget, show (s.frameLaw i).unit = s.unit by rw [elaw]]
    have hw : w = { s with
        cars := s.cars.set i c
        route := { s.route with commit :=
          if s.route.anchored then laterPoint s.route.commit d.lookAhead else s.route.commit }
        ctl := (s.frameLaw i).ctl } := by
      simp only [w, report_eq, setCar, hset]
      rw [elaw]
    have hreport : s.frameReport v i = d.lookAhead := by
      rw [frameReport_eq, if_pos (by rw [← hstate]; exact hc)]
    have hr : w.testedRecord w.cars[i] = r := by
      rw [setCar_get, if_pos rfl, hw]
      exact (if_pos hc).symm
    obtain ⟨e, rep⟩ := w.stateTest_turns i
    rw [hr, ← ht] at e rep
    have hcars : w.cars.set i r = s.cars.set i r := by rw [hw]; simp
    have hold : w.cars[i].state = s.cars[i].state := by rw [setCar_get, if_pos rfl]; exact hstate
    rw [hcars, hold] at e rep
    have hctl : w.ctl = (s.frameLaw i).ctl := by rw [hw]
    rw [hctl] at rep
    rw [hw] at e rep
    rw [hreport]
    exact ⟨e, rlaw.trans rep⟩
  · have hr : r = s.lawRecord i := by
      change s.frameRecord v i = _
      rw [frameRecord_eq, if_neg hc]
    have ht : t = s.frameLaw i := by
      change (if (s.frameLaw i).cars[i].state.computed then _ else s.frameLaw i) = _
      rw [hget, if_neg hc]
    have hreport : s.frameReport v i = none := by
      rw [frameReport, if_neg (by rw [← hstate]; exact hc)]
    have hsame : ¬ (s.cars[i].state ≠ .tracking ∧ s.cars[i].state = .tracking) := fun h => h.1 h.2
    rw [carNotices, show s.frameRecord v i = s.lawRecord i from hr, hr, ht, hstate, hreport, if_neg hsame,
      laterPoint_none, ite_self]
    simp only [ne_eq, not_true_eq_false, false_and, if_false, if_true, List.append_nil]
    exact ⟨elaw, rlaw⟩

end Sys2Proof.Machine
end

section
/-! SUPPORT. The turns of a control frame together: whatever the other cars do, each car's record ends as its own turn
makes it on the state in which the frame began (R50, R87, R88). -/

namespace Sys2Proof.Machine

/-! ## What a turn reads -/

/-- The items outside the cars and the mode that a car's turn reads are those of `s` in `t` too. -/
structure State.AgreesInFrame (s t : State) : Prop where
  odo : t.odo = s.odo
  mon : t.mon = s.mon
  gateOpen : t.gateOpen = s.gateOpen
  settings : t.unit.settings = s.unit.settings
  stagedLaw : t.unit.stagedLaw = s.unit.stagedLaw
  stagedGeneration : t.unit.stagedGeneration = s.unit.stagedGeneration
  governing : t.route.governing = s.route.governing
  doubt : t.route.doubt = s.route.doubt

theorem State.AgreesInFrame.demand {s t : State} (h : s.AgreesInFrame t) {i : CarId} (hi : t.cars[i] = s.cars[i])
    (v : Nat) : t.demand v i = s.demand v i := by
  have hposition : t.carPosition i = s.carPosition i := by
    unfold carPosition; rw [h.odo, h.settings]
  have hlimit : t.baseLimit i = s.baseLimit i := by
    unfold baseLimit reduced; rw [h.settings, h.mon, h.odo, hi]
  have htarget : t.targetAt = s.targetAt := by
    unfold targetAt; rw [h.governing, h.gateOpen]
  unfold State.demand
  rw [hposition, hlimit, htarget, h.governing, h.odo, hi]

theorem State.AgreesInFrame.setCar {s t : State} (h : s.AgreesInFrame t) (i : CarId) (c : CarChannel) :
    (s.setCar i c).AgreesInFrame (t.setCar i c) :=
  ⟨h.odo, h.mon, h.gateOpen, h.settings, h.stagedLaw, h.stagedGeneration, h.governing, h.doubt⟩

theorem State.AgreesInFrame.straightAt {s t : State} (h : s.AgreesInFrame t) (p : Option Nat) :
    t.route.straightAt p = s.route.straightAt p := by
  unfold RouteQueue.straightAt; rw [h.governing]

theorem State.AgreesInFrame.mustDrain {s t : State} (h : s.AgreesInFrame t) (c : CarChannel) :
    t.mustDrain c = s.mustDrain c := by
  simp only [State.mustDrain, RouteQueue.noDataAt, h.straightAt, h.governing, h.gateOpen]

theorem State.AgreesInFrame.mayResume {s t : State} (h : s.AgreesInFrame t) (hm : t.unit.mode = s.unit.mode)
    (c : CarChannel) : t.mayResume c = s.mayResume c := by
  simp only [State.mayResume, centringActive, silenceCentres, h.straightAt, h.gateOpen, h.mon, h.doubt, h.settings, hm]

theorem State.mayResume_mode {s : State} (h : s.unit.mode ≠ .run) (c : CarChannel) : s.mayResume c = false := by
  simp [mayResume, h]

/-- Outside RUN a state test leaves a record that counts as done (R94, R99). -/
theorem State.testedRecord_drained {s : State} (hm : s.unit.mode ≠ .run) {c : CarChannel}
    (h : c.state.drained = true) : s.testedRecord c = c := by
  unfold testedRecord
  cases hc : c.state <;> simp [hc, CarState.drained, mayResume_mode hm] at h ⊢

/-- The completion of a drain in a frame does not reach the tests of the cars that count as done. -/
theorem State.AgreesInFrame.testedRecord {s t : State} (h : s.AgreesInFrame t) {c : CarChannel}
    (hm : t.unit.mode = s.unit.mode
      ∨ (s.unit.mode = .draining ∧ t.unit.mode = .config ∧ c.state.drained = true)) :
    t.testedRecord c = s.testedRecord c := by
  rcases hm with hm | ⟨hs, ht, hd⟩
  · simp only [State.testedRecord, h.mayResume hm, h.mustDrain, hm]
  · rw [testedRecord_drained (by rw [ht]; decide) hd, testedRecord_drained (by rw [hs]; decide) hd]

theorem State.AgreesInFrame.frameRecord {s t : State} (h : s.AgreesInFrame t) {i : CarId}
    (hi : t.cars[i] = s.cars[i])
    (hm : t.unit.mode = s.unit.mode
      ∨ (s.unit.mode = .draining ∧ t.unit.mode = .config ∧ s.cars[i].state.drained = true)) (v : Nat) :
    t.frameRecord v i = s.frameRecord v i := by
  have hlaw : t.lawRecord i = s.lawRecord i := by
    simp only [lawRecord, withStagedLaw, hi, h.stagedLaw, h.stagedGeneration]
  have hdemand := (h.setCar i (s.lawRecord i)).demand (i := i) (by rw [setCar_get, setCar_get, if_pos rfl, if_pos rfl]) v
  rw [frameRecord_eq, frameRecord_eq, hlaw, hdemand, h.settings]
  split
  · refine h.testedRecord (hm.imp_right fun ⟨hs, ht, hd⟩ => ⟨hs, ht, ?_⟩)
    rw [← s.lawRecord_state i] at hd
    exact hd
  · rfl

/-- Outside RUN a car that counts as done stays in its state (R100). -/
theorem State.frameRecord_drained {s : State} (hm : s.unit.mode ≠ .run) {i : CarId}
    (h : s.cars[i].state.drained = true) (v : Nat) : (s.frameRecord v i).state = s.cars[i].state := by
  rw [frameRecord_eq]
  split
  · rw [testedRecord_drained hm]
    · exact s.lawRecord_state i
    · rw [← s.lawRecord_state i] at h
      exact h
  · exact s.lawRecord_state i

/-! ## The configured cars in their order -/

theorem State.mem_configured (s : State) (i : CarId) : i ∈ s.configured ↔ i.val < s.unit.settings.carCount := by
  simp [configured, mem_allCars]

theorem State.configured_sorted (s : State) : s.configured.Pairwise (· < ·) :=
  List.Pairwise.filter _ (by decide)

/-- In the order of the cars' turns the earlier cars have the lower indexes, and the later ones the higher. -/
theorem State.configured_split {s : State} {before after : List CarId} {i : CarId}
    (h : s.configured = before ++ i :: after) : (∀ j ∈ before, j < i) ∧ ∀ j ∈ after, i < j := by
  have hp := s.configured_sorted
  rw [h] at hp
  obtain ⟨-, htail, hcross⟩ := List.pairwise_append.mp hp
  exact ⟨fun j hj => hcross j hj i (by simp), (List.pairwise_cons.mp htail).1⟩

/-! ## The frame after some turns -/

/-- The records that a frame leaves (R86, R87). -/
def State.frameRecords (s : State) (v : Nat) : Vector CarChannel 8 :=
  Vector.ofFn fun i : Fin 8 => if i.val < s.unit.settings.carCount then s.frameRecord v i else s.cars[i]

theorem State.frameRecords_get (s : State) (v : Nat) (i : CarId) :
    (s.frameRecords v)[i] = if i.val < s.unit.settings.carCount then s.frameRecord v i else s.cars[i] := by
  simp [frameRecords]

/-- `u` is the frame that began as `s` once the cars of `done` have had their turns. -/
structure State.FrameAt (s : State) (v : Nat) (done : List CarId) (u : State) : Prop where
  eq : u = { s with
    cars := u.cars, unit := { s.unit with mode := u.unit.mode }, ctl := u.ctl
    sup := { s.sup with suspended := u.sup.suspended }, route := { s.route with commit := u.route.commit } }
  cars : ∀ j : CarId, u.cars[j] = if j ∈ done then s.frameRecord v j else s.cars[j]
  suspended : ∀ j : CarId, u.sup.suspended[j]
    = if j ∈ done ∧ s.cars[j].state ≠ .tracking ∧ (s.frameRecord v j).state = .tracking then false
      else s.sup.suspended[j]
  mode : u.unit.mode = s.unit.mode
    ∨ (s.unit.mode = .draining ∧ u.unit.mode = .config ∧ s.doneIn u.cars = true)
  unfinished : (s.unit.mode = .draining → s.drainComplete = false) →
    u.unit.mode = .draining → s.doneIn u.cars = false
  commit : u.route.commit = if s.route.anchored then (done.map (s.frameReport v)).foldl laterPoint s.route.commit
    else s.route.commit
  reports : s.ctl.Reports u.ctl [] (done.flatMap (s.turnNotices (s.frameRecords v)))

theorem State.FrameAt.start (s : State) (v : Nat) : s.FrameAt v [] s where
  eq := rfl
  cars := by simp
  suspended := by simp
  mode := .inl rfl
  unfinished h := h
  commit := by simp
  reports := .refl _

section Turn

variable {s u : State} {v : Nat} {before after : List CarId} {i : CarId} (h : s.FrameAt v before u)
  (hsplit : s.configured = before ++ i :: after)

include h

theorem State.FrameAt.agrees : s.AgreesInFrame u := by
  rw [h.eq]
  exact ⟨rfl, rfl, rfl, rfl, rfl, rfl, rfl, rfl⟩

theorem State.FrameAt.doneIn (cars : Vector CarChannel 8) : u.doneIn cars = s.doneIn cars := by
  rw [h.eq]; rfl

theorem State.FrameAt.cars_set (j : CarId) :
    (u.cars.set i (s.frameRecord v i))[j] = if j ∈ before ++ [i] then s.frameRecord v j else s.cars[j] := by
  rw [show (u.cars.set i (s.frameRecord v i))[j] = (u.setCar i (s.frameRecord v i)).cars[j] from rfl, setCar_get]
  by_cases hij : i = j
  · subst hij; simp
  · rw [if_neg hij, h.cars]; simp [Ne.symm hij]

include hsplit

theorem State.FrameAt.car : u.cars[i] = s.cars[i] := by
  rw [h.cars, if_neg fun hi => Nat.lt_irrefl _ ((configured_split hsplit).1 i hi)]

theorem State.FrameAt.record : u.frameRecord v i = s.frameRecord v i := by
  refine h.agrees.frameRecord (h.car hsplit) (h.mode.imp_right fun ⟨hs, hu, hd⟩ => ⟨hs, hu, ?_⟩) v
  rw [← h.car hsplit]
  exact (s.doneIn_iff _).mp hd i (by simp [hsplit])

theorem State.FrameAt.report : u.frameReport v i = s.frameReport v i := by
  unfold frameReport; rw [h.record hsplit, h.car hsplit]

/-- The change of state that completes a drain, told by the records before and after the frame (R100). -/
theorem State.FrameAt.completes :
    ((s.frameRecord v i).state ≠ s.cars[i].state ∧ u.unit.mode = .draining
        ∧ s.doneIn (u.cars.set i (s.frameRecord v i)) = true)
      ↔ s.unit.mode = .draining ∧ s.cars[i].state.drained = false ∧ (s.frameRecords v)[i].state.drained = true
        ∧ s.configured.all (fun j => decide (j ≤ i) || s.cars[j].state.drained) = true
        ∧ s.configured.all (fun j => (s.frameRecords v)[j].state.drained) = true := by
  have hrecords : ∀ j ∈ s.configured, (s.frameRecords v)[j] = s.frameRecord v j := by
    intro j hj
    rw [frameRecords_get, if_pos ((s.mem_configured j).mp hj)]
  have hi : i ∈ s.configured := by simp [hsplit]
  have hturn : ∀ j ∈ s.configured, (j ∈ before ++ [i] ∧ j ≤ i) ∨ (j ∉ before ++ [i] ∧ ¬ j ≤ i) := by
    intro j hj
    obtain ⟨hlow, hhigh⟩ := configured_split hsplit
    rw [hsplit] at hj
    rcases List.mem_append.mp hj with hj | hj
    · exact .inl ⟨by simp [hj], le_of_lt (hlow j hj)⟩
    · rcases List.mem_cons.mp hj with rfl | hj
      · exact .inl ⟨by simp, le_refl _⟩
      · have hij := hhigh j hj
        refine .inr ⟨fun hm => ?_, not_le_of_gt hij⟩
        rcases List.mem_append.mp hm with hm | hm
        · exact lt_asymm hij (hlow j hm)
        · exact ne_of_gt hij (List.mem_singleton.mp hm)
  simp only [s.doneIn_iff, h.cars_set, hrecords i hi, List.all_eq_true, Bool.or_eq_true, decide_eq_true_eq]
  constructor
  · rintro ⟨hne, hm, hdone⟩
    have hmode : s.unit.mode = .draining := by
      rcases h.mode with e | ⟨-, e, -⟩
      · rw [← e]; exact hm
      · rw [e] at hm; cases hm
    have hrun : s.unit.mode ≠ .run := by rw [hmode]; decide
    have hlater : ∀ j ∈ s.configured, j ≤ i ∨ s.cars[j].state.drained = true := by
      intro j hj
      rcases hturn j hj with ⟨-, hle⟩ | ⟨hn, -⟩
      · exact .inl hle
      · have := hdone j hj
        rw [if_neg hn] at this
        exact .inr this
    refine ⟨hmode, ?_, ?_, hlater, fun j hj => ?_⟩
    · by_contra hd
      exact hne (frameRecord_drained hrun ((Bool.not_eq_false _).mp hd) v)
    · have := hdone i hi
      rwa [if_pos (by simp)] at this
    · rw [hrecords j hj]
      have hd := hdone j hj
      rcases hturn j hj with ⟨hm, -⟩ | ⟨hn, -⟩
      · rwa [if_pos hm] at hd
      · rw [if_neg hn] at hd
        rw [frameRecord_drained hrun hd]; exact hd
  · rintro ⟨hmode, hnot, hr, hlater, hall⟩
    refine ⟨fun e => ?_, ?_, fun j hj => ?_⟩
    · rw [e, hnot] at hr; cases hr
    · rcases h.mode with e | ⟨-, -, hd⟩
      · rw [e]; exact hmode
      · have := (s.doneIn_iff _).mp hd i hi
        rw [h.car hsplit, hnot] at this; cases this
    · rcases hturn j hj with ⟨hm, -⟩ | ⟨hn, hle⟩
      · rw [if_pos hm, ← hrecords j hj]; exact hall j hj
      · rw [if_neg hn]; exact (hlater j hj).resolve_left hle

/-- The notices of a turn, told by the records before and after the frame. -/
theorem State.FrameAt.notices : u.carNotices v i = s.turnNotices (s.frameRecords v) i := by
  have hcar := h.car hsplit
  have hi : i ∈ s.configured := by simp [hsplit]
  have hfinal : (s.frameRecords v)[i] = s.frameRecord v i := by
    rw [frameRecords_get, if_pos ((s.mem_configured i).mp hi)]
  have hcompletes := h.completes hsplit
  rw [hfinal] at hcompletes
  have hnotice : u.notice = s.notice := by rw [h.eq]; rfl
  unfold carNotices lawNotices turnNotices carNotice modeNotice
  dsimp only
  rw [h.record hsplit, h.doneIn, hcar, hfinal, hnotice, h.agrees.stagedGeneration, List.append_assoc]
  simp only [hcompletes]

/-- One more car has had its turn. -/
theorem State.FrameAt.turn : s.FrameAt v (before ++ [i]) (u.frameCar v i) := by
  obtain ⟨e, r⟩ := u.frameCar_spec v i
  have hcar := h.car hsplit
  have hi : i ∈ s.configured := by simp [hsplit]
  rw [h.notices hsplit] at r
  rw [h.record hsplit, hcar, h.doneIn, h.report hsplit] at e
  generalize u.frameCar v i = t at e r
  have hcars : t.cars = u.cars.set i (s.frameRecord v i) := by rw [e]
  have hmode : t.unit.mode = if (s.frameRecord v i).state ≠ s.cars[i].state ∧ u.unit.mode = .draining
      ∧ s.doneIn (u.cars.set i (s.frameRecord v i)) = true then .config else u.unit.mode := by
    conv_lhs => rw [e]
  have hi' : i ∉ before := fun hm => lt_irrefl _ ((configured_split hsplit).1 i hm)
  have hkept : (s.frameRecord v i).state = s.cars[i].state → s.doneIn t.cars = s.doneIn u.cars := by
    intro hstate
    have hall : ∀ j : CarId, t.cars[j].state = u.cars[j].state := by
      intro j
      rw [hcars, h.cars_set, h.cars]
      by_cases hij : j = i
      · subst hij; simpa [hi', -Fin.getElem_fin] using hstate
      · simp [hij]
    simp only [State.doneIn, hall]
  constructor
  case eq =>
    obtain ⟨cars, mode, suspended, commit, ctl, e⟩ : ∃ cars mode suspended commit ctl, t = { u with
        cars := cars, unit := { u.unit with mode := mode }, ctl := ctl
        sup := { u.sup with suspended := suspended }, route := { u.route with commit := commit } } :=
      ⟨_, _, _, _, _, e⟩
    subst e
    conv_lhs => rw [h.eq]
  case cars => intro j; rw [hcars, h.cars_set]
  case suspended =>
    intro j
    have hs : t.sup.suspended = if s.cars[i].state ≠ .tracking ∧ (s.frameRecord v i).state = .tracking then
        u.sup.suspended.set i false else u.sup.suspended := by rw [e]
    by_cases hij : j = i
    · subst hij
      simp only [List.mem_append, List.mem_singleton, or_true, true_and]
      rw [hs]
      split
      · simp
      · rw [h.suspended, if_neg fun hm => hi' hm.1]
    · have hother : t.sup.suspended[j] = u.sup.suspended[j] := by
        rw [hs]
        split
        · simp [Fin.val_ne_of_ne (Ne.symm hij)]
        · rfl
      rw [hother, h.suspended]
      simp [hij]
  case mode =>
    rw [← hcars] at hmode
    rcases h.mode with hu | ⟨hs, hu, hd⟩
    · split at hmode
      · next ends => exact .inr ⟨hu ▸ ends.2.1, hmode, ends.2.2⟩
      · exact .inl (hmode.trans hu)
    · have hdrained : s.cars[i].state.drained = true := by
        rw [← hcar]; exact (s.doneIn_iff _).mp hd i hi
      have hstate := frameRecord_drained (by rw [hs]; decide) hdrained v
      rw [if_neg fun ends => ends.1 hstate] at hmode
      exact .inr ⟨hs, hmode.trans hu, (hkept hstate).trans hd⟩
  case unfinished =>
    intro hs ht
    rw [← hcars] at hmode
    split at hmode
    · rw [hmode] at ht; cases ht
    · next ends =>
      have hu : u.unit.mode = .draining := hmode.symm.trans ht
      by_cases hstate : (s.frameRecord v i).state = s.cars[i].state
      · rw [hkept hstate]; exact h.unfinished hs hu
      · exact (Bool.not_eq_true _).mp fun hd => ends ⟨hstate, hu, hd⟩
  case commit =>
    have hc : t.route.commit = if u.route.anchored then laterPoint u.route.commit (s.frameReport v i)
        else u.route.commit := by rw [e]
    rw [hc, show u.route.anchored = s.route.anchored by rw [h.eq], h.commit]
    split <;> simp
  case reports => simpa using h.reports.trans r

end Turn

end Sys2Proof.Machine
end

section
/-! SUPPORT. The control frame whole: the cars' turns, the commit point and the lead point that their reports make, the
evaluation and the completion test (R43, R87). -/

namespace Sys2Proof.Machine

/-! ## The greatest of the reports -/

theorem laterPoint_cases (a b : Option Nat) : laterPoint a b = a ∨ laterPoint a b = b := by
  rcases a with _ | a <;> rcases b with _ | b <;> simp [laterPoint]
  omega

theorem laterPoint_ge {a b : Option Nat} {p : Nat} (h : a = some p ∨ b = some p) :
    ∃ q, laterPoint a b = some q ∧ p ≤ q := by
  rcases h with rfl | rfl
  · cases b with
    | none => exact ⟨p, rfl, le_refl _⟩
    | some b => exact ⟨_, rfl, le_max_left _ _⟩
  · cases a with
    | none => exact ⟨p, rfl, le_refl _⟩
    | some a => exact ⟨_, rfl, le_max_right _ _⟩

/-- One point and some reports have a greatest point as soon as one of them is present. -/
theorem foldl_laterPoint_greatest {reports : List (Option Nat)} {start : Option Nat} {p : Nat}
    (h : some p ∈ start :: reports) :
    ∃ c, reports.foldl laterPoint start = some c ∧ some c ∈ start :: reports
      ∧ ∀ q, some q ∈ start :: reports → q ≤ c := by
  induction reports generalizing start p with
  | nil =>
    obtain rfl := List.mem_singleton.mp h
    exact ⟨p, rfl, by simp, by simp⟩
  | cons x rest ih =>
    have hraise : ∀ q, some q ∈ start :: x :: rest → ∃ r, some r ∈ laterPoint start x :: rest ∧ q ≤ r := by
      intro q hq
      rcases List.mem_cons.mp hq with e | hq
      · obtain ⟨r, hr, hle⟩ := laterPoint_ge (b := x) (.inl e.symm)
        exact ⟨r, by simp [hr], hle⟩
      · rcases List.mem_cons.mp hq with e | hq
        · obtain ⟨r, hr, hle⟩ := laterPoint_ge (a := start) (.inr e.symm)
          exact ⟨r, by simp [hr], hle⟩
        · exact ⟨q, by simp [hq], le_refl _⟩
    obtain ⟨r, hr, -⟩ := hraise p h
    obtain ⟨c, hc, hmem, hge⟩ := ih hr
    refine ⟨c, hc, ?_, fun q hq => ?_⟩
    · rcases List.mem_cons.mp hmem with e | hmem
      · rcases laterPoint_cases start x with h | h <;> simp [e, h]
      · simp [hmem]
    · obtain ⟨r, hr, hle⟩ := hraise q hq
      exact hle.trans (hge r hr)

theorem foldl_laterPoint_absent {reports : List (Option Nat)} (h : ∀ r ∈ reports, r = none) (start : Option Nat) :
    reports.foldl laterPoint start = start := by
  induction reports with
  | nil => rfl
  | cons x rest ih =>
    rw [List.foldl_cons, h x (by simp), laterPoint_none, ih fun r hr => h r (by simp [hr])]

/-! ## The lead point -/

/-- The lead point that the reports of the cars make in turn (R43). -/
def leadOf (report : CarId → Option Nat) : List CarId → Option Nat → Bool → Option Nat
  | [], lead, _ => lead
  | i :: rest, lead, car0 =>
    let l := leadPoint i (report i) lead car0
    leadOf report rest l.1 l.2

theorem leadOf_car0 (report : CarId → Option Nat) (cars : List CarId) (lead : Option Nat) :
    leadOf report cars lead true = lead := by
  induction cars with
  | nil => rfl
  | cons i rest ih => exact ih

/-- Car 0's report is the lead point when it made one, else the greatest is (R43). -/
theorem leadOf_eq (report : CarId → Option Nat) (cars : List CarId) (lead : Option Nat) :
    leadOf report cars lead false
      = if 0 ∈ cars ∧ (report 0).isSome then report 0 else (cars.map report).foldl laterPoint lead := by
  induction cars generalizing lead with
  | nil => simp [leadOf]
  | cons i rest ih =>
    by_cases h : i = 0 ∧ (report i).isSome = true
    · obtain ⟨rfl, hr⟩ := h
      simp [leadOf, leadPoint, hr, leadOf_car0]
    · have hstep : leadOf report (i :: rest) lead false = leadOf report rest (laterPoint lead (report i)) false := by
        simp only [leadOf, leadPoint, if_neg h, Bool.false_eq_true, if_false]
      have hcond : (0 ∈ i :: rest ∧ (report 0).isSome = true) ↔ (0 ∈ rest ∧ (report 0).isSome = true) := by
        refine ⟨fun ⟨hm, hr⟩ => ⟨?_, hr⟩, fun ⟨hm, hr⟩ => ⟨by simp [hm], hr⟩⟩
        rcases List.mem_cons.mp hm with rfl | hm
        · exact absurd ⟨rfl, hr⟩ h
        · exact hm
      rw [hstep, ih]
      simp only [hcond, List.map_cons, List.foldl_cons]

/-! ## All the turns -/

theorem State.FrameAt.all {s u : State} {v : Nat} {before after : List CarId} (h : s.FrameAt v before u)
    (hsplit : s.configured = before ++ after) (lead : Option Nat) (car0 : Bool) :
    s.FrameAt v s.configured (frameCars v after u lead car0).1
      ∧ (frameCars v after u lead car0).2 = leadOf (s.frameReport v) after lead car0 := by
  induction after generalizing before u lead car0 with
  | nil =>
    rw [List.append_nil] at hsplit
    exact ⟨hsplit ▸ h, rfl⟩
  | cons i rest ih =>
    have hturn := h.turn hsplit
    have hreport : (if u.cars[i].state.computed then (u.frameCar v i).reported i else none) = s.frameReport v i := by
      rw [h.car hsplit, reported, hturn.cars i, if_pos (show i ∈ before ++ [i] by simp)]
      rfl
    rw [frameCars, leadOf, hreport]
    exact ih hturn (by simp [hsplit]) _ _

/-! ## What the reports of a frame make -/

/-- The configured cars that a frame computes (R50). -/
def State.computedCars (s : State) : List CarId := s.configured.filter (fun i => s.cars[i].state.computed)

theorem State.mem_computedCars (s : State) (i : CarId) :
    i ∈ s.computedCars ↔ i ∈ s.configured ∧ s.cars[i].state.computed = true := by
  simp [computedCars, -Fin.getElem_fin]

theorem State.frameReport_computed {s : State} {i : CarId} (h : i ∈ s.computedCars) (v : Nat) :
    s.frameReport v i = (s.frameRecords v)[i].lastLookAhead := by
  obtain ⟨hi, hc⟩ := (s.mem_computedCars i).mp h
  rw [frameReport, if_pos hc, frameRecords_get, if_pos ((s.mem_configured i).mp hi)]

theorem State.frameReport_valid {s : State} (hv : s.odo.positionValid = true) {i : CarId} (h : i ∈ s.computedCars)
    (v : Nat) : ∃ p, s.frameReport v i = some p := by
  have hvalid : (s.setCar i (s.lawRecord i)).odo.positionValid = true := hv
  rw [frameReport_eq, if_pos ((s.mem_computedCars i).mp h).2, demand, if_pos hvalid]
  exact ⟨_, rfl⟩

/-- Without a valid position, or without a computed car, a frame has no report (R51). -/
theorem State.frameReport_absent {s : State} (h : s.odo.positionValid = false ∨ s.computedCars = []) (v : Nat) :
    ∀ r ∈ s.configured.map (s.frameReport v), r = none := by
  intro r hr
  obtain ⟨i, hi, rfl⟩ := List.mem_map.mp hr
  rw [frameReport_eq]
  split
  · next hc =>
    rcases h with hv | hn
    · have hinvalid : ¬ (s.setCar i (s.lawRecord i)).odo.positionValid = true := by
        rw [show (s.setCar i (s.lawRecord i)).odo = s.odo from rfl, hv]; decide
      rw [demand, if_neg hinvalid]
    · have := (s.mem_computedCars i).mpr ⟨hi, hc⟩
      rw [hn] at this
      cases this
  · rfl

theorem State.lead_absent {s : State} (h : s.odo.positionValid = false ∨ s.computedCars = []) (v : Nat) :
    leadOf (s.frameReport v) s.configured none false = none := by
  have habsent := frameReport_absent h v
  have hcar0 : ¬ (0 ∈ s.configured ∧ (s.frameReport v 0).isSome = true) := by
    rintro ⟨hm, hr⟩
    rw [habsent _ (List.mem_map_of_mem hm)] at hr
    cases hr
  rw [leadOf_eq, if_neg hcar0, foldl_laterPoint_absent habsent]

/-- The reports present in a frame are those of the computed cars. -/
theorem State.mem_reports (s : State) (v p : Nat) : some p ∈ s.configured.map (s.frameReport v)
    ↔ ∃ i ∈ s.computedCars, (s.frameRecords v)[i].lastLookAhead = some p := by
  constructor
  · intro h
    obtain ⟨i, hi, hr⟩ := List.mem_map.mp h
    have hc : s.cars[i].state.computed = true := by
      by_contra hn
      rw [frameReport, if_neg hn] at hr
      cases hr
    have hm := (s.mem_computedCars i).mpr ⟨hi, hc⟩
    exact ⟨i, hm, by rw [← frameReport_computed hm, hr]⟩
  · rintro ⟨i, hm, hr⟩
    exact List.mem_map.mpr ⟨i, ((s.mem_computedCars i).mp hm).1, by rw [frameReport_computed hm, hr]⟩

section Reports

variable {s : State} (hv : s.odo.positionValid = true) (hn : s.computedCars ≠ []) (v : Nat)

include hv

theorem State.computed_reports : ∀ i ∈ s.computedCars, ∃ p, (s.frameRecords v)[i].lastLookAhead = some p
    ∧ some p ∈ s.configured.map (s.frameReport v) := by
  intro i hi
  obtain ⟨p, hp⟩ := frameReport_valid hv hi v
  rw [frameReport_computed hi] at hp
  exact ⟨p, hp, (s.mem_reports v p).mpr ⟨i, hi, hp⟩⟩

include hn

theorem State.exists_report : ∃ p, some p ∈ s.configured.map (s.frameReport v) := by
  obtain ⟨i, hi⟩ := List.exists_mem_of_ne_nil _ hn
  obtain ⟨p, -, hp⟩ := computed_reports hv v i hi
  exact ⟨p, hp⟩

/-- The commit point rises to the furthest of the reports (R34). -/
theorem State.commit_spec : ∃ c, (s.configured.map (s.frameReport v)).foldl laterPoint s.route.commit = some c
    ∧ (∀ i ∈ s.computedCars, ∃ p, (s.frameRecords v)[i].lastLookAhead = some p ∧ p ≤ c)
    ∧ (∀ c₀, s.route.commit = some c₀ → c₀ ≤ c)
    ∧ (s.route.commit = some c ∨ ∃ i ∈ s.computedCars, (s.frameRecords v)[i].lastLookAhead = some c) := by
  obtain ⟨p, hp⟩ := exists_report hv hn v
  obtain ⟨c, hc, hmem, hge⟩ := foldl_laterPoint_greatest (start := s.route.commit) (List.mem_cons_of_mem _ hp)
  refine ⟨c, hc, fun i hi => ?_, fun c₀ h => hge c₀ (by simp [h]), ?_⟩
  · obtain ⟨q, hq, hm⟩ := computed_reports hv v i hi
    exact ⟨q, hq, hge q (List.mem_cons_of_mem _ hm)⟩
  · rcases List.mem_cons.mp hmem with h | h
    · exact .inl h.symm
    · exact .inr ((s.mem_reports v c).mp h)

/-- The lead point of a frame is car 0's report, or else the furthest (R43). -/
theorem State.lead_spec : ∃ lead, leadOf (s.frameReport v) s.configured none false = some lead
    ∧ (0 ∈ s.computedCars → (s.frameRecords v)[(0 : CarId)].lastLookAhead = some lead)
    ∧ (0 ∉ s.computedCars → (∃ i ∈ s.computedCars, (s.frameRecords v)[i].lastLookAhead = some lead)
      ∧ ∀ i ∈ s.computedCars, ∃ p, (s.frameRecords v)[i].lastLookAhead = some p ∧ p ≤ lead) := by
  rw [leadOf_eq]
  by_cases h0 : 0 ∈ s.computedCars
  · obtain ⟨p, hp⟩ := frameReport_valid hv h0 v
    rw [if_pos ⟨((s.mem_computedCars 0).mp h0).1, by simp [hp]⟩]
    exact ⟨p, hp, fun _ => by rw [← frameReport_computed h0, hp], fun h => absurd h0 h⟩
  · have hcar0 : ¬ (0 ∈ s.configured ∧ (s.frameReport v 0).isSome = true) := by
      rintro ⟨hm, hr⟩
      refine h0 ((s.mem_computedCars 0).mpr ⟨hm, ?_⟩)
      by_contra hc
      rw [frameReport, if_neg hc] at hr
      cases hr
    rw [if_neg hcar0]
    obtain ⟨p, hp⟩ := exists_report hv hn v
    obtain ⟨c, hc, hmem, hge⟩ := foldl_laterPoint_greatest (start := none) (List.mem_cons_of_mem _ hp)
    refine ⟨c, hc, fun h => absurd h h0, fun _ => ⟨(s.mem_reports v c).mp ?_, fun i hi => ?_⟩⟩
    · simpa using hmem
    · obtain ⟨q, hq, hm⟩ := computed_reports hv v i hi
      exact ⟨q, hq, hge q (List.mem_cons_of_mem _ hm)⟩

end Reports

/-! ## The end of the frame -/

theorem ControlLink.Reports.trans_quiet {c d e : ControlLink} {rs : List Reply} {ns : List Notice}
    (h : c.Reports d rs ns) (h' : d.Reports e [] []) : c.Reports e rs ns := by
  simpa using h.trans h'

/-- The evaluation of a lead point changes the latches and the lead point alone, and posts notices. -/
theorem State.evaluateLead_eq (s : State) (lead : Option Nat) :
    s.evaluateLead lead = { s with
      route := { s.route with
        lastLead := (s.evaluateLead lead).route.lastLead, lowLatch := (s.evaluateLead lead).route.lowLatch
        exhaustedLatch := (s.evaluateLead lead).route.exhaustedLatch }
      ctl := (s.evaluateLead lead).ctl } := by
  cases lead with
  | none => rfl
  | some p =>
    cases ha : s.route.anchored with
    | false => rw [evaluateLead_unanchored ha]
    | true =>
      obtain ⟨e, -⟩ := evaluateLead_spec ha p
      generalize s.evaluateLead (some p) = t at e
      rw [e]

section End

variable {s u : State} {v : Nat} (h : s.FrameAt v s.configured u)

include h

theorem State.FrameAt.cars_eq : u.cars = s.frameRecords v := by
  refine Vector.ext fun j hj => ?_
  have hget := h.cars ⟨j, hj⟩
  rw [show u.cars[j] = u.cars[(⟨j, hj⟩ : CarId)] from rfl, hget,
    show (s.frameRecords v)[j] = (s.frameRecords v)[(⟨j, hj⟩ : CarId)] from rfl, frameRecords_get]
  simp only [s.mem_configured]

theorem State.FrameAt.suspended_eq (i : CarId) : u.sup.suspended[i]
    = if s.cars[i].state ≠ .tracking ∧ (s.frameRecords v)[i].state = .tracking then false else s.sup.suspended[i] := by
  rw [h.suspended, frameRecords_get]
  by_cases hi : i ∈ s.configured
  · rw [if_pos ((s.mem_configured i).mp hi)]; simp only [hi, true_and]
  · rw [if_neg (hi ∘ (s.mem_configured i).mpr), if_neg fun hm => hi hm.1, if_neg fun hm => hm.1 hm.2]

theorem State.FrameAt.notices_all : s.ctl.Reports u.ctl [] (s.frameNotices u.cars) := by
  rw [h.cars_eq]; exact h.reports

/-- The mode after a completion test on the records that the frame leaves (R100). -/
def State.endMode (s u : State) : Mode :=
  if s.unit.mode = .draining ∧ s.doneIn u.cars = true then .config else s.unit.mode

theorem State.FrameAt.endMode : (if u.unit.mode = .draining ∧ s.doneIn u.cars = true then .config else u.unit.mode)
    = s.endMode u := by
  unfold State.endMode
  rcases h.mode with hu | ⟨hs, hu, hd⟩
  · rw [hu]
  · rw [hu, if_neg (by simp), if_pos ⟨hs, hd⟩]

/-- The completion test after the evaluation of the lead point (R87, R100). -/
theorem State.FrameAt.settled (lead : Option Nat) :
    let w := u.evaluateLead lead
    w.settle = { w with unit := { s.unit with mode := s.endMode u }, ctl := w.settle.ctl }
      ∧ ((s.unit.mode = .draining → s.drainComplete = false) → w.ctl.Reports w.settle.ctl [] []) := by
  intro w
  have hunit : w.unit = u.unit := by simp [w]
  have hcars : w.cars = u.cars := by simp [w]
  have hdone : w.drainComplete = s.doneIn u.cars := by
    rw [← h.doneIn, ← hcars, drainComplete_eq]
    unfold State.doneIn configured
    rw [hunit]
  obtain ⟨e, r⟩ := w.settle_spec
  rw [hunit, hdone] at e r
  rw [h.endMode] at e
  constructor
  · rw [h.eq] at e
    exact e
  · intro hs
    have hopen : ¬ (u.unit.mode = .draining ∧ s.doneIn u.cars = true) := by
      rintro ⟨hm, hd⟩
      rw [h.unfinished hs hm] at hd
      cases hd
    rwa [if_neg hopen] at r

theorem State.FrameAt.anchored : u.route.anchored = s.route.anchored := by rw [h.eq]

/-- The evaluation of the lead point of a frame whose queue is anchored (R43 to R46). -/
theorem State.FrameAt.evaluated (ha : s.route.anchored = true) (p : Nat) :
    let w := u.evaluateLead (some p)
    w.route.lastLead = some p
      ∧ w.route.lowLatch = (s.route.lowLatch || decide (s.route.endChainage - p < s.unit.trainSet.lowWater))
      ∧ w.route.exhaustedLatch = (s.route.exhaustedLatch || decide (s.route.endChainage ≤ p))
      ∧ s.ctl.Reports w.ctl [] (s.frameNotices u.cars ++ s.leadNotices p) := by
  intro w
  obtain ⟨e, hposted⟩ := evaluateLead_spec (h.anchored.trans ha) p
  have hleadNotices : u.leadNotices p = s.leadNotices p := by rw [h.eq]; rfl
  rw [hleadNotices] at hposted
  refine ⟨?_, ?_, ?_, h.notices_all.trans hposted⟩
  · change (u.evaluateLead (some p)).route.lastLead = _
    rw [e]
  · change (u.evaluateLead (some p)).route.lowLatch = _
    rw [e, h.eq]
  · change (u.evaluateLead (some p)).route.exhaustedLatch = _
    rw [e, h.eq]

/-- A frame whose queue is not anchored, or that has no report, leaves the route as it is (R34, R43). -/
theorem State.FrameAt.unevaluated
    (hout : s.route.anchored = false ∨ s.odo.positionValid = false ∨ s.computedCars = []) :
    u.evaluateLead (leadOf (s.frameReport v) s.configured none false) = u ∧ u.route = s.route := by
  have hroute : u.route = { s.route with commit := u.route.commit } := by
    conv_lhs => rw [h.eq]
  rcases hout with ha | hout
  · have hcommit : u.route.commit = s.route.commit := h.commit.trans (if_neg (by simp [ha]))
    exact ⟨evaluateLead_unanchored (h.anchored.trans ha) _, hroute.trans (by rw [hcommit])⟩
  · have hcommit : u.route.commit = s.route.commit := by
      rw [h.commit, foldl_laterPoint_absent (frameReport_absent hout v), ite_self]
    rw [lead_absent hout]
    exact ⟨rfl, hroute.trans (by rw [hcommit])⟩

end End

theorem State.execControlFrame_eq {s : State} (h : s.now ≤ s.frameStart + 20000) :
    let timed : State := { s with now := s.frameStart + 20000, frameStart := s.frameStart + 20000 }
    let f : State := { timed with gateOpen := gateAfter timed.speed s.unit.trainSet.vMin s.gateOpen }
    let r := frameCars timed.speed f.configured f none false
    exec .controlFrame s = .next ((r.1.evaluateLead r.2).settle) := by
  have hrun : max s.now (s.frameStart + 20000) = s.frameStart + 20000 := Nat.max_eq_right h
  change execControlFrame s = _
  simp only [execControlFrame, runTo, framePeriod, hrun]

/-- Settles O37, from the turns of the cars in their order. -/
theorem controlFrameMovesEachCar : Obligations.ControlFrameMovesEachCar := by
  intro s htime timed v f computed
  obtain ⟨h, hlead⟩ := (State.FrameAt.start f v).all (after := f.configured) rfl none false
  have hexec := State.execControlFrame_eq htime
  change exec .controlFrame s = .next (((frameCars v f.configured f none false).1.evaluateLead
    (frameCars v f.configured f none false).2).settle) at hexec
  generalize frameCars v f.configured f none false = frame at h hlead hexec
  obtain ⟨u, lead⟩ := frame
  dsimp only at h hlead hexec
  obtain ⟨e, hsettled⟩ := h.settled lead
  obtain ⟨hwcars, hwsup, hwcommit⟩ : (u.evaluateLead lead).cars = u.cars ∧ (u.evaluateLead lead).sup = u.sup
    ∧ (u.evaluateLead lead).route.commit = u.route.commit := by simp
  have hlatches := u.evaluateLead_eq lead
  refine ⟨_, hexec, ?_⟩
  generalize hw : u.evaluateLead lead = w at *
  generalize w.settle = t at *
  have htcars : t.cars = u.cars := by rw [e]; exact hwcars
  have htsup : t.sup = u.sup := by rw [e]; exact hwsup
  have htroute : t.route = w.route := by rw [e]
  have hquiet : s.CarsSound → w.ctl.Reports t.ctl [] [] := fun hs => hsettled hs.draining
  rw [htcars, htsup, htroute, hwcommit]
  refine ⟨fun i => ?cars, fun i => ?suspended, fun ha hv hn => ?commit, fun ha hv hn => ?lead, fun hout => ?still,
    ?unit, ?frame⟩
  case cars => rw [h.cars_eq, State.frameRecords_get]
  case suspended => rw [h.suspended_eq, h.cars_eq]
  case commit =>
    rw [h.commit, if_pos (show f.route.anchored = true from ha), h.cars_eq]
    exact State.commit_spec (s := f) hv hn v
  case lead =>
    obtain ⟨p, hp, hcar0, hothers⟩ := State.lead_spec (s := f) hv hn v
    obtain ⟨hlast, hlow, hexhausted, hposted⟩ := h.evaluated ha p
    rw [hlead.trans hp] at hw
    rw [hw] at hlast hlow hexhausted hposted
    refine ⟨p, ?_, ?_, hlast, hlow, hexhausted, fun hs => ?_⟩
    · rw [h.cars_eq]; exact hcar0
    · rw [h.cars_eq]; exact hothers
    · exact hposted.trans_quiet (hquiet hs)
  case still =>
    obtain ⟨hsame, hroute⟩ := h.unevaluated hout
    obtain rfl : u = w := by rw [← hw, hlead, hsame]
    exact ⟨hroute, fun hs => h.notices_all.trans_quiet (hquiet hs)⟩
  case unit =>
    rw [e]
    simp only [State.endMode, f.doneIn_iff]
    rfl
  case frame =>
    have hends : t = { w with unit := t.unit, ctl := t.ctl } := by rw [e]
    conv_lhs => rw [hends, hlatches, h.eq]

end Sys2Proof.Machine
end

section
/-! SUPPORT. The dead band, and the target of a computation (O33, O34). -/

namespace Sys2Proof.Machine

/-! ## The dead band (R58) -/

theorem effectiveAcceleration_within {a : Int} {deadBand : Nat} (h : a.natAbs ≤ deadBand) :
    effectiveAcceleration a deadBand = 0 := if_pos h

theorem effectiveAcceleration_right {a : Int} {deadBand : Nat} (h : (deadBand : Int) < a) :
    effectiveAcceleration a deadBand = a - deadBand := by
  rw [effectiveAcceleration, if_neg (by omega), if_pos (by omega)]

theorem effectiveAcceleration_left {a : Int} {deadBand : Nat} (h : a < -(deadBand : Int)) :
    effectiveAcceleration a deadBand = a + deadBand := by
  rw [effectiveAcceleration, if_neg (by omega), if_neg (by omega)]

/-- Settles O33: an acceleration lies within the band, to its right or to its left. -/
theorem deadBandApplied : Obligations.DeadBandApplied := by
  intro a deadBand
  refine ⟨effectiveAcceleration_within, effectiveAcceleration_right, effectiveAcceleration_left, ?_⟩
  have sides : a.natAbs ≤ deadBand ∨ (deadBand : Int) < a ∨ a < -(deadBand : Int) := by omega
  rcases sides with h | h | h
  · rw [effectiveAcceleration_within h]
    exact ⟨by omega, by omega, by simp⟩
  · rw [effectiveAcceleration_right h]
    exact ⟨by omega, by omega, Int.mul_nonneg (by omega) (by omega)⟩
  · rw [effectiveAcceleration_left h]
    exact ⟨by omega, by omega, Int.mul_nonneg_of_nonpos_of_nonpos (by omega) (by omega)⟩

/-! ## The effective limit (R62, R63) -/

theorem capLimit_spec (limit : Nat) (g : Option Segment) :
    capLimit limit g ≤ limit ∧ (∀ c, g.bind Segment.cap = some c → capLimit limit g ≤ c)
      ∧ (capLimit limit g = limit ∨ g.bind Segment.cap = some (capLimit limit g)) := by
  unfold capLimit
  cases g.bind Segment.cap with
  | none => simp
  | some cap => simp; omega

theorem State.baseLimit_eq (s : State) (i : CarId) :
    s.baseLimit i = if s.mon.clockFallback = true ∨ s.odo.doubt = true ∨ s.cars[i].healthReduce = true then
        min s.unit.settings.tiltMax s.cars[i].law.tiltDegraded
      else s.unit.settings.tiltMax := by
  have hreduced : s.reduced i = true
      ↔ s.mon.clockFallback = true ∨ s.odo.doubt = true ∨ s.cars[i].healthReduce = true := by
    simp only [reduced, Bool.or_eq_true, or_assoc]
  unfold baseLimit
  simp only [hreduced]
  split <;> omega

/-- The limit at two points is the least of the base limit and the caps of the segments there (R63). -/
theorem capLimit_twice (base : Nat) (g h : Option Segment) :
    let limit := capLimit (capLimit base g) h
    limit ≤ base ∧ (∀ c, g.bind Segment.cap = some c ∨ h.bind Segment.cap = some c → limit ≤ c)
      ∧ (limit = base ∨ g.bind Segment.cap = some limit ∨ h.bind Segment.cap = some limit) := by
  intro limit
  obtain ⟨gle, gcap, gis⟩ := capLimit_spec base g
  obtain ⟨hle, hcap, his⟩ := capLimit_spec (capLimit base g) h
  refine ⟨hle.trans gle, fun c hc => hc.elim (fun hg => hle.trans (gcap c hg)) (hcap c), ?_⟩
  rcases his with e | e
  · rw [show limit = capLimit base g from e]
    exact gis.imp_right .inl
  · exact .inr (.inr e)

/-! ## The target (R61, R64) -/

theorem clampTilt_within {raw : Int} {limit : Nat} (h : raw.natAbs ≤ limit) : clampTilt raw limit = (raw, .law) :=
  if_pos h

theorem clampTilt_beyond {raw : Int} {limit : Nat} (h : limit < raw.natAbs) :
    clampTilt raw limit = (if 0 < raw then (limit : Int) else -limit, .capped) := by
  have hsign : sign raw * limit = if 0 < raw then (limit : Int) else -limit := by
    unfold sign
    split
    · omega
    · rw [if_pos (by omega)]; omega
  rw [clampTilt, if_neg (by omega), hsign]

section Target

variable {s : State} (law : TiltLaw) (v limit : Nat) {p : Nat}

theorem State.targetAt_noRoute (h : s.route.governing p = none) : s.targetAt law v p limit = (0, .noRoute) := by
  unfold targetAt; rw [h]

theorem State.targetAt_shut (h : s.route.governing p ≠ none) (hg : s.gateOpen = false) :
    s.targetAt law v p limit = (0, .speed) := by
  obtain ⟨g, hp⟩ := Option.ne_none_iff_exists'.mp h
  unfold targetAt; rw [hp, hg]; rfl

theorem State.targetAt_open {g : Segment} (h : s.route.governing p = some g) (hg : s.gateOpen = true) :
    s.targetAt law v p limit = clampTilt (rawTilt (effectiveAcceleration
      (lateralAcceleration v (g.curvature p) (g.cant p)) law.deadBand) law.k) limit := by
  unfold targetAt; rw [h, hg]; rfl

end Target

/-! ## The computation (R51 to R66) -/

theorem State.demand_invalid {s : State} (h : s.odo.positionValid = false) (v : Nat) (i : CarId) :
    s.demand v i = ⟨0, .noRoute, s.baseLimit i, none, none⟩ := by
  rw [demand, if_neg (by simp [h])]

theorem State.demand_valid {s : State} (h : s.odo.positionValid = true) (v : Nat) (i : CarId) :
    let position := s.carPosition i
    let p := lookAhead position v s.cars[i].law.leadTime
    let limit := capLimit (capLimit (s.baseLimit i) (s.route.governing position)) (s.route.governing p)
    let t := s.targetAt s.cars[i].law v p limit
    s.demand v i = ⟨t.1, t.2, limit, some position, some p⟩ := by
  intro position p limit t
  rw [demand, if_pos h]

/-- Settles O34, without a valid position and with one; its bounds are `State.demand_bound`. -/
theorem targetHeldWithinTheLimit : Obligations.TargetHeldWithinTheLimit := by
  intro s v i law position p d tiltMax reduced base capAt
  have hbase : s.baseLimit i = base := s.baseLimit_eq i
  have bounds : d.target.natAbs ≤ d.limit ∧ d.limit ≤ tiltMax := s.demand_bound v i
  cases hv : s.odo.positionValid with
  | false =>
    have hd : d = ⟨0, .noRoute, base, none, none⟩ := by rw [← hbase]; exact s.demand_invalid hv v i
    refine ⟨fun _ h => (nomatch h), fun _ => ?_, (nomatch ·), fun _ => ?_, (nomatch ·), bounds⟩
    · rw [hd]; exact ⟨rfl, rfl⟩
    · rw [hd]; exact ⟨rfl, rfl, rfl⟩
  | true =>
    let limit := capLimit (capLimit base (s.route.governing position)) (s.route.governing p)
    let t := s.targetAt law v p limit
    have hd : d = ⟨t.1, t.2, limit, some position, some p⟩ := by
      simp only [t, limit, ← hbase]; exact s.demand_valid hv v i
    refine ⟨fun g _ hopen hg => ?_, fun h => ?_, fun _ hg hshut => ?_, (nomatch ·), fun _ => ?_, bounds⟩
    · intro felt raw
      have ht : t = clampTilt raw d.limit := by rw [hd]; exact State.targetAt_open law v limit hg hopen
      have htarget : d.target = (clampTilt raw d.limit).1 ∧ d.reason = (clampTilt raw d.limit).2 := by
        rw [← ht, hd]; exact ⟨rfl, rfl⟩
      refine ⟨fun h => ?_, fun h => ?_, fun h => ?_⟩
      · rwa [clampTilt_within h] at htarget
      · rwa [clampTilt_beyond h] at htarget
      · rwa [clampTilt_within (by omega), h] at htarget
    · have hnone := h.resolve_left (nomatch ·)
      have ht : t = (0, .noRoute) := State.targetAt_noRoute law v limit hnone
      rw [hd, ht]; exact ⟨rfl, rfl⟩
    · have ht : t = (0, .speed) := State.targetAt_shut law v limit hg hshut
      rw [hd, ht]; exact ⟨rfl, rfl⟩
    · obtain ⟨hle, hcap, his⟩ := capLimit_twice base (s.route.governing position) (s.route.governing p)
      rw [hd]
      exact ⟨hle, hcap, his, rfl, rfl⟩

end Sys2Proof.Machine
end

section
/-! SUPPORT. The speed gate: what each command leaves of it (O32). -/

namespace Sys2Proof.Machine

/-! ## The frame (R60) -/

theorem frameCars_gateOpen (v : Nat) (l : List CarId) (s : State) (lead : Option Nat) (car0 : Bool) :
    (frameCars v l s lead car0).1.gateOpen = s.gateOpen := by
  induction l generalizing s lead car0 with
  | nil => rfl
  | cons i l ih => rw [frameCars, ih]; simp

theorem execControlFrame_gateOpen {s t : State} (he : execControlFrame s = .next t) :
    t.gateOpen = gateAfter (s.runTo (s.frameStart + framePeriod)).speed s.unit.trainSet.vMin s.gateOpen := by
  injection he with he; subst he
  dsimp only
  rw [State.settle_gateOpen, (State.evaluateLead_frame _ _).2.2.1, frameCars_gateOpen]
  rfl

/-! ## The requests -/

theorem releaseCars_gateOpen (l : List CarId) (s : State) (n : Nat) :
    (releaseCars l s n).1.gateOpen = s.gateOpen := by
  induction l generalizing s n with
  | nil => rfl
  | cons i l ih =>
    unfold releaseCars
    split
    · rw [ih]; simp
    · exact ih _ _

theorem State.fixApplied_gateOpen (s : State) (c : Int) (newer : List Capture) :
    (s.fixApplied c newer).gateOpen = s.gateOpen := by
  unfold fixApplied fixReported fixMoved; split <;> simp

/-- No request touches the gate. -/
theorem request_gateOpen {c : Instr} {k tag : Byte} {m : State → Answer} (hm : requestMeaning c = some (k, tag, m))
    (s : State) : (m s).state.gateOpen = s.gateOpen := by
  cases c <;> simp only [requestMeaning, reduceCtorEq, Option.some.injEq, Prod.mk.injEq] at hm <;>
    obtain ⟨-, -, rfl⟩ := hm
  case configureTrain g p =>
    unfold requestConfigureTrain
    split
    · rfl
    · split
      · rfl
      · rw [Answer.done_state, (State.leaveToNextCycle_frame _ _).2.2.2.1,
          foldl_view (fun s : State => s.gateOpen) State.forgetCar (fun s i => by simp),
          foldl_view (fun s : State => s.gateOpen) State.recount (fun s i => by simp)]
  case setTiltLaw g p =>
    unfold requestSetTiltLaw
    split
    · rfl
    · rw [Answer.done_state, foldl_view (fun s : State => s.gateOpen) State.stageCar (fun s i => by simp)]
  case setModeConfig g =>
    unfold requestSetModeConfig
    split
    · rw [Answer.done_state, State.settle_gateOpen,
        foldl_view (fun s : State => s.gateOpen) State.drainCar (fun s i => by simp), State.changeMode_gateOpen]
    · rfl
    · rfl
  case positionFix g n x =>
    cases hf : findCapture n s.odo.captures with
    | none => rw [requestPositionFix_missing hf]; rfl
    | some found => rw [requestPositionFix_found hf]; exact s.fixApplied_gateOpen _ _
  case resume g x =>
    unfold requestResume
    (repeat' split)
    · exact releaseCars_gateOpen _ _ _
    all_goals simp
  case resumeAll g => exact releaseCars_gateOpen _ _ _
  case setTrainSet =>
    unfold requestSetTrainSet
    split
    · rfl
    · rw [Answer.done_state]; split <;> rfl
  case setModeRun => unfold requestSetModeRun; (repeat' split) <;> simp
  case setPosition => unfold requestSetPosition; (repeat' split) <;> simp
  case routeAppend => unfold requestRouteAppend; (repeat' split) <;> simp [State.append]
  case routeTruncate => unfold requestRouteTruncate; (repeat' split) <;> rfl
  case routeConfirm => unfold requestRouteConfirm; split <;> rfl
  case readmit => unfold requestReadmit; (repeat' split) <;> simp
  case queryCar => unfold requestQueryCar; split <;> rfl
  case queryRoute => unfold requestQueryRoute; split <;> rfl
  case restart => unfold requestRestart; split <;> rfl
  all_goals rfl

/-! ## The other commands -/

/-- Every command but the frame, the two starts and the end of a reply leaves the gate. -/
theorem exec_gateOpen {c : Instr} {s t : State} (he : exec c s = .next t) (hframe : c ≠ .controlFrame)
    (hreset : ∀ b, c ≠ .hardwareReset b) (hreply : c ≠ .replySent) : t.gateOpen = s.gateOpen := by
  have hl : IgnoresLink fun u => u.gateOpen = s.gateOpen := fun _ _ h => h
  have hr : ∀ (i : Instr) (k tag : Byte) (m : State → Answer) (u : State), requestMeaning i = some (k, tag, m) →
      u.gateOpen = s.gateOpen → (m u).state.gateOpen = s.gateOpen :=
    fun _ _ _ _ u hm h => (request_gateOpen hm u).trans h
  have hh : ∀ u : State, u.gateOpen = s.gateOpen → u.heardFrame.gateOpen = s.gateOpen := fun u h => by simp [h]
  have request : ∀ {meaning}, requestMeaning c = some meaning → t.gateOpen = s.gateOpen := by
    intro meaning hm
    obtain ⟨f, -, e⟩ := exec_request c hm s
    rw [e] at he
    injection he with he; subst he
    exact keeps_offer hl hr f hm rfl
  cases c
  case controlFrame => exact absurd rfl hframe
  case hardwareReset b => exact absurd rfl (hreset b)
  case replySent => exact absurd rfl hreply
  case unknownRequest k tag p =>
    injection he with he; subst he
    split
    · exact keeps_takeFrame hl hr _ rfl
    · exact keeps_serve hl hr (keeps_joinFifo hl _ rfl)
  case controlFrameReceived dt bytes =>
    injection he with he; subst he
    exact keeps_receiveBytes hl hr hh (fun _ _ h => h) _ _ _ rfl
  case controlLinkByteReceived dt b =>
    injection he with he; subst he
    exact keeps_receiveByte hl hr hh _ rfl
  case markerPulse dt samples =>
    injection he with he; subst he
    exact foldl_view (fun s : State => s.gateOpen) State.markerSample (fun s b => by simp) samples (s.after dt)
  case tachoPulse | tachoStall | comparisonWindow | inhibitSet | inhibitClear | clockWindow | linkSilentOnset
    | pollCycleExpiry | setpointSend | setpointSent | turnWaitLimit | replyWindowClose | statusReception
    | frameGapTimeout | batchSent | quietTimerExpiry | absoluteTimerExpiry =>
    injection he with he; subst he
    (try dsimp only [State.endReception, State.closeGap, State.countDiscard, State.freeTransmitter])
    (repeat' split) <;> simp
  all_goals exact request rfl

/-- The end of a reply leaves the gate, but for a RESTART carried out, which shuts it (R69). -/
theorem execReplySent_gateOpen {s t : State} (he : execReplySent s = .next t) :
    t.gateOpen = s.gateOpen ∨ (t.gateOpen = false ∧ s.ctl.hold = true) := by
  injection he with he; subst he
  split
  · dsimp only
    split
    · next h =>
      refine .inr ⟨by rw [State.restart_eq], ?_⟩
      exact (Bool.and_eq_true_iff.mp h).1
    · refine .inl ?_
      unfold State.freeTransmitter
      rw [State.chooseFrame_gateOpen]
      exact keeps_serve (P := fun u => u.gateOpen = s.gateOpen) (fun _ _ h => h)
        (fun _ _ _ _ u hm h => (request_gateOpen hm u).trans h) rfl
  · exact .inl rfl

theorem execHardwareReset_gateOpen {b : Bool} {s t : State} (he : execHardwareReset b s = .next t) :
    t.gateOpen = false := by
  injection he with he; subst he
  simp [State.postStarted, State.blank]

/-- Settles O32: the frame evaluates the gate, the two starts shut it, and every other command leaves it. -/
theorem gateChangesAtFramesAlone : Obligations.GateChangesAtFramesAlone := by
  refine ⟨fun s t he => execControlFrame_gateOpen he, fun c s t he hframe => ?_⟩
  by_cases hreset : ∃ b, c = .hardwareReset b
  · obtain ⟨b, rfl⟩ := hreset
    exact .inr ⟨execHardwareReset_gateOpen he, .inl ⟨b, rfl⟩⟩
  by_cases hreply : c = .replySent
  · subst hreply
    exact (execReplySent_gateOpen he).imp_right fun ⟨hg, hh⟩ => ⟨hg, .inr ⟨rfl, hh⟩⟩
  exact .inl (exec_gateOpen he hframe (fun b e => hreset ⟨b, e⟩) hreply)

end Sys2Proof.Machine
end

section
/-! SUPPORT. What the soundness of the train asks of one car's record, and the changes of a record that keep it (R64,
R74, R75, R86, R91 to R95, R100). -/

namespace Sys2Proof.Machine

/-- What soundness asks of a car's record in a train with the mode, the settings and the causes of `s`. -/
structure State.Admits (s : State) (c : CarChannel) : Prop where
  config : s.unit.mode = .config → c.state ≠ .tracking ∧ c.state ≠ .returning
  centred : s.centringActive = true → c.state ≠ .tracking
  rest : c.state ≠ .tracking → c.state ≠ .returning → c.theta = 0 ∧ c.omega = 0
  forced : c.state ≠ .tracking → c.target = 0 ∧ c.reason = .forcedZero
  latched : c.state = .latched → c.latchReason ≠ none
  reason : c.latchReason ≠ none → c.state = .returning ∨ c.state = .latched
  theta : c.theta.natAbs ≤ s.unit.settings.tiltMax * 100
  omega : c.omega.natAbs ≤ c.law.omegaMax
  target : c.target.natAbs ≤ c.limit
  law : c.law.Sound

/-- The record without the items that its soundness does not read. -/
def CarChannel.motion (c : CarChannel) : CarChannel :=
  { c with generation := 0, driveFault := false, supervision := false, healthReduce := false, lastPosition := none,
           lastLookAhead := none }

theorem CarChannel.state_of_motion {c d : CarChannel} (h : c.motion = d.motion) : c.state = d.state := by
  change c.motion.state = d.motion.state
  rw [h]

theorem State.admits_motion (s : State) (c : CarChannel) : s.Admits c.motion ↔ s.Admits c :=
  ⟨fun h => ⟨h.config, h.centred, h.rest, h.forced, h.latched, h.reason, h.theta, h.omega, h.target, h.law⟩,
    fun h => ⟨h.config, h.centred, h.rest, h.forced, h.latched, h.reason, h.theta, h.omega, h.target, h.law⟩⟩

section Admits

variable {s t : State} {c d : CarChannel}

theorem State.Admits.of_motion (h : s.Admits c) (e : d.motion = c.motion) : s.Admits d := by
  rw [← admits_motion, e, admits_motion]; exact h

theorem State.Admits.congr (h : s.Admits c) (hmode : t.unit.mode = s.unit.mode)
    (hsettings : t.unit.settings = s.unit.settings) (hcentring : t.centringActive = true → c.state ≠ .tracking) :
    t.Admits c :=
  { h with config := hmode ▸ h.config, centred := hcentring, theta := hsettings ▸ h.theta }

/-! ## Records at rest -/

/-- A record at rest that nothing holds LATCHED. -/
structure CarChannel.Idle (c : CarChannel) : Prop where
  state : c.state ≠ .tracking ∧ c.state ≠ .returning ∧ c.state ≠ .latched
  still : c.theta = 0 ∧ c.omega = 0
  forced : c.target = 0 ∧ c.reason = .forcedZero
  unlatched : c.latchReason = none
  law : c.law.Sound

/-- A record at rest fits any train. -/
theorem CarChannel.Idle.admits (h : c.Idle) : s.Admits c where
  config _ := ⟨h.state.1, h.state.2.1⟩
  centred _ := h.state.1
  rest _ _ := h.still
  forced _ := h.forced
  latched e := absurd e h.state.2.2
  reason hn := absurd h.unlatched hn
  theta := by rw [h.still.1]; exact Nat.zero_le _
  omega := by rw [h.still.2]; exact Nat.zero_le _
  target := by rw [h.forced.1]; exact Nat.zero_le _
  law := h.law

theorem State.Admits.idle (h : s.Admits c) (hs : c.state ≠ .tracking ∧ c.state ≠ .returning ∧ c.state ≠ .latched) :
    c.Idle where
  state := hs
  still := h.rest hs.1 hs.2.1
  forced := h.forced hs.1
  unlatched := by
    by_contra hn
    exact (h.reason hn).elim hs.2.1 hs.2.2
  law := h.law

theorem CarChannel.Idle.into (h : c.Idle) {st : CarState} (hst : st ≠ .tracking ∧ st ≠ .returning ∧ st ≠ .latched) :
    (c.into st).Idle :=
  ⟨hst, h.still, ⟨rfl, rfl⟩, h.unlatched, h.law⟩

/-- In CONFIG a record fits whatever the settings and the causes are (R166). -/
theorem State.Admits.in_config (h : s.Admits c) (hs : s.unit.mode = .config) : t.Admits c := by
  obtain ⟨htracking, hreturning⟩ := h.config hs
  obtain ⟨htheta, -⟩ := h.rest htracking hreturning
  exact { h with
    config := fun _ => ⟨htracking, hreturning⟩, centred := fun _ => htracking
    theta := by rw [htheta]; exact Nat.zero_le _ }

/-! ## Changes of a record's state -/

/-- A TRACKING car may go RETURNING, with any latch reason (R91, R99). -/
theorem State.Admits.returning (h : s.Admits c) (hc : c.state = .tracking) (r : Option LatchReason) :
    s.Admits { c.into .returning with latchReason := r } where
  config hm := absurd hc (h.config hm).1
  centred _ := nofun
  rest _ hn := absurd rfl hn
  forced _ := ⟨rfl, rfl⟩
  latched := nofun
  reason _ := .inl rfl
  theta := h.theta
  omega := h.omega
  target := Nat.zero_le _
  law := h.law

/-- A car at rest may become LATCHED with a latch reason (R92, R93). -/
theorem State.Admits.into_latched (h : s.Admits c) (hstill : c.theta = 0 ∧ c.omega = 0) {r : Option LatchReason}
    (hr : r ≠ none) : s.Admits { c.into .latched with latchReason := r } where
  config _ := ⟨nofun, nofun⟩
  centred _ := nofun
  rest _ _ := hstill
  forced _ := ⟨rfl, rfl⟩
  latched _ := hr
  reason _ := .inr rfl
  theta := h.theta
  omega := h.omega
  target := Nat.zero_le _
  law := h.law

/-- A RETURNING or LATCHED car may have another latch reason (R92). -/
theorem State.Admits.relatched (h : s.Admits c) (hc : c.state = .returning ∨ c.state = .latched) (r : LatchReason) :
    s.Admits { c with latchReason := some r } :=
  { h with latched := fun _ => nofun, reason := fun _ => hc }

/-- A CENTRED car may resume in RUN while no centring cause is active (R94). -/
theorem State.Admits.resumed (h : s.Admits c) (hc : c.state = .centred) (hm : s.unit.mode = .run)
    (hcentring : s.centringActive = false) : s.Admits (c.into .tracking) := by
  have idle := h.idle (by simp [hc])
  exact
    { config := fun e => by rw [hm] at e; cases e
      centred := fun e => by rw [hcentring] at e; cases e
      rest := fun hn => absurd rfl hn
      forced := fun hn => absurd rfl hn
      latched := nofun
      reason := fun hn => absurd idle.unlatched hn
      theta := h.theta
      omega := h.omega
      target := Nat.zero_le _
      law := h.law }

/-- A centring cause at a record (R91). -/
theorem State.Admits.centring (h : s.Admits c) : s.Admits c.centred := by
  unfold CarChannel.centred
  split
  · next hc => exact h.returning hc c.latchReason
  · exact h

theorem State.Admits.caused (h : s.Admits c) (cause : LatchReason) (reaction : Reaction) :
    s.Admits (c.caused cause reaction) := by
  unfold CarChannel.caused
  cases hc : c.state <;> dsimp only
  case tracking => exact h.returning hc _
  case centred =>
    split
    · exact h.into_latched (h.idle (by simp [hc])).still nofun
    · exact h
  case returning =>
    split
    · rw [← hc]; exact h.relatched (.inl hc) _
    · exact h
  case latched =>
    split
    · rw [← hc]; exact h.relatched (.inr hc) _
    · exact h
  case offline | isolated | probing => exact h

/-! ## The law, the computation and the step of a frame -/

/-- A car whose rate is 0 may take another law (R95, R97). -/
theorem State.Admits.withLaw (h : s.Admits c) (hstill : c.omega = 0) {law : TiltLaw} (hlaw : law.Sound)
    (generation : BitVec 16) : s.Admits { c with law := law, generation := generation } :=
  { h with omega := by simp [hstill], law := hlaw }

theorem CarChannel.take_forced (hc : c.state ≠ .tracking) (d : Demand) :
    (c.take d).target = 0 ∧ (c.take d).reason = .forcedZero := by
  simp [take, hc]

/-- The computation and the profile step of a frame keep a record within its bounds (R64, R67, R74, R75). -/
theorem State.Admits.computed (h : s.Admits c) {d : Demand} (htarget : d.target.natAbs ≤ d.limit)
    (hlimit : d.limit ≤ s.unit.settings.tiltMax) :
    s.Admits ((c.take d).step s.unit.settings.tiltMax) := by
  have taken : (c.take d).target.natAbs ≤ d.limit := by
    unfold CarChannel.take; dsimp only; split <;> simp [htarget]
  have bounds := profileStep_bound c.theta c.omega (c.take d).target c.law s.unit.settings.tiltMax (by omega) h.omega
  exact
    { config := h.config
      centred := h.centred
      rest := fun (htracking : c.state ≠ .tracking) (hreturning : c.state ≠ .returning) => by
        obtain ⟨htheta, homega⟩ := h.rest htracking hreturning
        unfold CarChannel.step
        rw [(CarChannel.take_forced htracking d).1, show (c.take d).theta = 0 from htheta,
          show (c.take d).omega = 0 from homega, profileStep_rest]
        exact ⟨rfl, rfl⟩
      forced := fun (htracking : c.state ≠ .tracking) => CarChannel.take_forced htracking d
      latched := h.latched
      reason := h.reason
      theta := bounds.1
      omega := bounds.2
      target := taken
      law := h.law }

theorem CarChannel.quiet_iff (c : CarChannel) : c.quiet = true ↔ c.theta = 0 ∧ c.omega = 0 := by
  simp [quiet]

/-- The state test of a frame (R93, R94, R99). -/
theorem State.Admits.tested (h : s.Admits c) : s.Admits (s.testedRecord c) := by
  unfold testedRecord
  split
  · next hc =>
    have hstill := c.quiet_iff.mp hc.2
    split
    · next hl => exact h.into_latched hstill (Option.isSome_iff_ne_none.mp hl)
    · next hl =>
      exact CarChannel.Idle.admits ⟨⟨nofun, nofun, nofun⟩, hstill, ⟨rfl, rfl⟩, Option.not_isSome_iff_eq_none.mp hl, h.law⟩
  · split
    · next hc =>
      have hr := hc.2
      simp only [mayResume, Bool.and_eq_true, beq_iff_eq, Bool.not_eq_true'] at hr
      obtain ⟨⟨⟨⟨⟨hrun, hcentring⟩, -⟩, -⟩, -⟩, -⟩ := hr
      exact (h.resumed hc.1 hrun hcentring).of_motion rfl
    · split
      · next hc => exact h.returning hc.1 c.latchReason
      · exact h

end Admits

end Sys2Proof.Machine
end

section
/-! SUPPORT. The soundness of the train as one invariant, what leaves it, and the changes of the cars' states and of the
mode that keep it (R86, R91, R92, R100). -/

namespace Sys2Proof.Machine

/-! ## The invariant -/

/-- Every record fits, whichever cars the settings configure. -/
structure State.RecordsFit (s : State) : Prop where
  cars : ∀ i : CarId, s.Admits s.cars[i]
  inhibit : s.mon.inhibit = s.mon.inhibitLevel
  staged : s.unit.stagedLaw.Sound

/-- Every record fits, and the cars beyond CAR_COUNT are the OFFLINE ones. -/
structure State.TrainFits (s : State) : Prop extends s.RecordsFit where
  offline : ∀ i : CarId, s.cars[i].state = .offline ↔ s.unit.settings.carCount ≤ i.val

/-- The train is sound: it fits, and a drain in progress is not complete. -/
structure State.TrainSound (s : State) : Prop extends s.TrainFits where
  draining : s.unit.mode = .draining → s.drainComplete = false

theorem State.trainSound_iff (s : State) : s.TrainSound ↔ s.CarsSound ∧ s.TiltSound := by
  constructor
  · intro h
    refine ⟨⟨fun i => ?_, h.inhibit, h.draining⟩, fun i => ?_, h.staged⟩
    · have hi := h.cars i
      exact ⟨h.offline i, hi.config, hi.rest, hi.forced, hi.centred, hi.latched, hi.reason⟩
    · have hi := h.cars i
      exact ⟨hi.theta, hi.omega, hi.target, hi.law⟩
  · rintro ⟨hc, ht⟩
    refine ⟨⟨⟨fun i => ?_, hc.inhibit, ht.staged⟩, fun i => (hc.cars i).offline⟩, hc.draining⟩
    have hi := hc.cars i
    have hj := ht.cars i
    exact ⟨hi.config, hi.centred, hi.rest, hi.forced, hi.latched, hi.reason, hj.theta, hj.omega, hj.target, hj.law⟩

/-! ## What leaves the train -/

theorem State.centringActive_iff (s : State) : s.centringActive = true
    ↔ s.mon.inhibit = true ∨ s.route.doubt = true ∨ s.silenceCentres = true := by
  rw [centringActive, Bool.or_eq_true, Bool.or_eq_true, or_assoc]

/-- `t` has the mode, the settings, the staged law and the records of `s`; other causes may be active. -/
structure State.CarriesTrain (s t : State) : Prop where
  mode : t.unit.mode = s.unit.mode
  settings : t.unit.settings = s.unit.settings
  stagedLaw : t.unit.stagedLaw = s.unit.stagedLaw
  cars : ∀ i : CarId, t.cars[i].motion = s.cars[i].motion
  inhibit : s.mon.inhibit = s.mon.inhibitLevel → t.mon.inhibit = t.mon.inhibitLevel

/-- `t` carries the train of `s`, and no centring cause has become active. -/
structure State.LeavesTrain (s t : State) : Prop extends s.CarriesTrain t where
  centring : t.centringActive = true → s.centringActive = true

section Leaves

variable {s t u : State}

theorem State.CarriesTrain.state (h : s.CarriesTrain t) (i : CarId) : t.cars[i].state = s.cars[i].state :=
  CarChannel.state_of_motion (h.cars i)

theorem State.CarriesTrain.drainComplete (h : s.CarriesTrain t) (hd : s.drainComplete = false) :
    t.drainComplete = false := by
  obtain ⟨j, hj, hn⟩ := s.drainComplete_false.mp hd
  exact t.drainComplete_false.mpr ⟨j, by rw [h.settings]; exact hj, by rw [h.state]; exact hn⟩

theorem State.CarriesTrain.of_eq (cars : t.cars = s.cars) (unit : t.unit = s.unit) (mon : t.mon = s.mon) :
    s.CarriesTrain t :=
  ⟨by rw [unit], by rw [unit], by rw [unit], fun i => by rw [cars], fun h => by rw [mon]; exact h⟩

/-- A change outside the train that may take ROUTE_DOUBT away. -/
theorem State.LeavesTrain.of_doubt (cars : t.cars = s.cars) (unit : t.unit = s.unit) (mon : t.mon = s.mon)
    (doubt : t.route.doubt = true → s.route.doubt = true) : s.LeavesTrain t where
  toCarriesTrain := .of_eq cars unit mon
  centring h := by
    have silence : t.silenceCentres = s.silenceCentres := by rw [silenceCentres, unit, mon]; rfl
    rw [centringActive_iff, mon, silence] at h
    exact s.centringActive_iff.mpr (h.imp_right (Or.imp_left doubt))

theorem State.LeavesTrain.of_eq (cars : t.cars = s.cars) (unit : t.unit = s.unit) (mon : t.mon = s.mon)
    (doubt : t.route.doubt = s.route.doubt) : s.LeavesTrain t :=
  .of_doubt cars unit mon fun h => doubt ▸ h

theorem State.LeavesTrain.refl (s : State) : s.LeavesTrain s := .of_eq rfl rfl rfl rfl

theorem State.LeavesTrain.trans (h₁ : s.LeavesTrain t) (h₂ : t.LeavesTrain u) : s.LeavesTrain u where
  mode := h₂.mode.trans h₁.mode
  settings := h₂.settings.trans h₁.settings
  stagedLaw := h₂.stagedLaw.trans h₁.stagedLaw
  cars i := (h₂.cars i).trans (h₁.cars i)
  inhibit h := h₂.inhibit (h₁.inhibit h)
  centring h := h₁.centring (h₂.centring h)

/-- Turns that each leave the train leave it together. -/
theorem State.LeavesTrain.of_foldl {α : Type} (f : State → α → State) (h : ∀ (s : State) i, s.LeavesTrain (f s i))
    (l : List α) (s : State) : s.LeavesTrain (l.foldl f s) :=
  foldl_keeps s.LeavesTrain f (fun _ i hs => hs.trans (h _ i)) l s (.refl s)

theorem State.after_leavesTrain (s : State) (dt : Nat) : s.LeavesTrain (s.after dt) := .of_eq rfl rfl rfl rfl

theorem State.post_leavesTrain (s : State) (k : NoticeKind) (c : Option CarId) (a b : BitVec 16) :
    s.LeavesTrain (s.post k c a b) := .of_eq (by simp) (by simp) (by simp) (by simp)

theorem State.RecordsFit.leaves (h : s.RecordsFit) (hl : s.LeavesTrain t) : t.RecordsFit where
  cars i := by
    refine ((h.cars i).of_motion (hl.cars i)).congr hl.mode hl.settings fun hc => ?_
    rw [hl.state]
    exact (h.cars i).centred (hl.centring hc)
  inhibit := hl.inhibit h.inhibit
  staged := by rw [hl.stagedLaw]; exact h.staged

theorem State.TrainFits.leaves (h : s.TrainFits) (hl : s.LeavesTrain t) : t.TrainFits where
  toRecordsFit := h.toRecordsFit.leaves hl
  offline i := by rw [hl.state, hl.settings]; exact h.offline i

theorem State.TrainSound.leaves (h : s.TrainSound) (hl : s.LeavesTrain t) : t.TrainSound where
  toTrainFits := h.toTrainFits.leaves hl
  draining hm := hl.drainComplete (h.draining (hl.mode ▸ hm))

theorem State.TrainSound.trackingConfigured (h : s.TrainSound) : s.TrackingConfigured :=
  (s.trainSound_iff.mp h).1.trackingConfigured

end Leaves

/-! ## A record changed -/

section SetCar

variable {s : State} {i : CarId} {c : CarChannel}

theorem State.RecordsFit.setCar (h : s.RecordsFit) (hc : s.Admits c) : (s.setCar i c).RecordsFit where
  cars j := by
    have hj : s.Admits (s.setCar i c).cars[j] := by
      rw [setCar_get]
      split
      · exact hc
      · exact h.cars j
    exact hj.congr rfl rfl hj.centred
  inhibit := h.inhibit
  staged := h.staged

theorem State.TrainFits.setCar (h : s.TrainFits) (hc : s.Admits c)
    (ho : c.state = .offline ↔ s.cars[i].state = .offline) : (s.setCar i c).TrainFits where
  toRecordsFit := h.toRecordsFit.setCar hc
  offline j := by
    rw [setCar_get]
    split
    · next hij => subst hij; exact ho.trans (h.offline i)
    · exact h.offline j

theorem State.TrainSound.setCar (h : s.TrainSound) (hc : s.Admits c)
    (ho : c.state = .offline ↔ s.cars[i].state = .offline) (hd : c.state.drained = s.cars[i].state.drained) :
    (s.setCar i c).TrainSound where
  toTrainFits := h.toTrainFits.setCar hc ho
  draining hm := by
    obtain ⟨j, hj, hn⟩ := s.drainComplete_false.mp (h.draining hm)
    refine (drainComplete_false _).mpr ⟨j, hj, ?_⟩
    rw [setCar_get]
    split
    · next hij => subst hij; rw [hd]; exact hn
    · exact hn

end SetCar

/-! ## The completion test -/

/-- A complete drain leaves no car TRACKING or RETURNING, so the test may make the mode CONFIG (R100). -/
theorem State.TrainFits.settle {s : State} (h : s.TrainFits) : s.settle.TrainSound := by
  obtain ⟨e, -⟩ := s.settle_spec
  by_cases hends : s.unit.mode = .draining ∧ s.drainComplete = true
  · rw [if_pos hends] at e
    rw [e]
    have hdone : ∀ i : CarId, s.cars[i].state ≠ .tracking ∧ s.cars[i].state ≠ .returning := by
      intro i
      by_cases hi : i.val < s.unit.settings.carCount
      · have := (s.doneIn_iff s.cars).mp hends.2 i ((s.mem_configured i).mpr hi)
        cases hs : s.cars[i].state <;> simp [hs, CarState.drained, -Fin.getElem_fin] at this ⊢
      · rw [(h.offline i).mpr (by omega)]
        exact ⟨nofun, nofun⟩
    exact
      { cars := fun i => { h.cars i with config := fun _ => hdone i, centred := fun _ => (hdone i).1 }
        inhibit := h.inhibit, staged := h.staged, offline := h.offline, draining := nofun }
  · rw [s.settle_eq (by
      by_cases hm : s.unit.mode = .draining
      · exact .inr (by simpa [hm] using hends)
      · exact .inl hm)]
    exact ⟨h, fun hm => by simpa [hm] using hends⟩

/-- Entering a state leaves the train with the record that the state forces (R109). -/
theorem State.enter_leavesTrain (s : State) (i : CarId) (c : CarChannel) (st : CarState) (cause : CarCause) :
    (s.setCar i (c.into st)).LeavesTrain ((s.setCar i c).enter i st cause) where
  mode := by simp
  settings := by simp
  stagedLaw := by simp
  inhibit := by simp
  centring := by simp [centringActive, silenceCentres]
  cars j := by
    rw [enter_get, setCar_get, setCar_get, setCar_get]
    split <;> simp [CarChannel.into]

/-- A car enters a state: it suffices that the record it leads to fits (R109). -/
theorem State.TrainFits.enter {s : State} (h : s.TrainFits) {i : CarId} {c : CarChannel} {st : CarState}
    (hc : s.Admits (c.into st)) (ho : st = .offline ↔ s.cars[i].state = .offline) (cause : CarCause) :
    ((s.setCar i c).enter i st cause).TrainFits :=
  (h.setCar (i := i) hc ho).leaves (s.enter_leavesTrain i c st cause)

/-- A car's change of state with the completion test (R100, R109). -/
theorem State.TrainFits.transition {s : State} (h : s.TrainFits) {i : CarId} {c : CarChannel} {st : CarState}
    (hc : s.Admits (c.into st)) (ho : st = .offline ↔ s.cars[i].state = .offline) (cause : CarCause) :
    ((s.setCar i c).transition i st cause).TrainSound :=
  (h.enter hc ho cause).settle

theorem State.setCar_self (s : State) (i : CarId) : s.setCar i s.cars[i] = s := by simp [setCar]

/-- A car enters a state with its record otherwise as it is (R109). -/
theorem State.TrainFits.enter_self {s : State} (h : s.TrainFits) {i : CarId} {st : CarState}
    (hc : s.Admits (s.cars[i].into st)) (ho : st = .offline ↔ s.cars[i].state = .offline) (cause : CarCause) :
    (s.enter i st cause).TrainFits := by
  have := h.enter hc ho cause
  rwa [setCar_self] at this

/-- A car changes its state with its record otherwise as it is (R100, R109). -/
theorem State.TrainFits.transition_self {s : State} (h : s.TrainFits) {i : CarId} {st : CarState}
    (hc : s.Admits (s.cars[i].into st)) (ho : st = .offline ↔ s.cars[i].state = .offline) (cause : CarCause) :
    (s.transition i st cause).TrainSound :=
  (h.enter_self hc ho cause).settle

/-! ## Reactions to causes -/

theorem CarChannel.centred_drained (c : CarChannel) : c.centred.state.drained = c.state.drained := by
  unfold centred
  split
  · next h => rw [h]; rfl
  · rfl

theorem CarChannel.centred_offline (c : CarChannel) : c.centred.state = .offline ↔ c.state = .offline := by
  unfold centred
  split
  · next h => rw [h]; exact ⟨nofun, nofun⟩
  · rfl

theorem CarChannel.caused_drained (c : CarChannel) (cause : LatchReason) (reaction : Reaction) :
    (c.caused cause reaction).state.drained = c.state.drained := by
  unfold caused
  cases hc : c.state <;> dsimp only <;> (try split) <;> simp [CarChannel.into, CarState.drained, hc]

theorem CarChannel.caused_offline (c : CarChannel) (cause : LatchReason) (reaction : Reaction) :
    (c.caused cause reaction).state = .offline ↔ c.state = .offline := by
  unfold caused
  cases hc : c.state <;> dsimp only <;> (try split) <;> simp [CarChannel.into, hc]

/-- A train-level centring cause that has arisen in a sound train is answered by centring every car (R91). -/
theorem State.TrainSound.centreAll {s t : State} (h : s.TrainSound) (ht : s.CarriesTrain t) (cause : CarCause) :
    (t.centreAll cause).TrainSound := by
  have htracking : t.TrackingConfigured := by
    intro hm j hj
    rw [ht.settings]
    exact h.trackingConfigured (ht.mode ▸ hm) j (ht.state j ▸ hj)
  obtain ⟨e, -⟩ := t.centreAll_spec cause htracking
  have hcars : ∀ j : CarId, (t.centreAll cause).cars[j] = t.cars[j].centred := t.centreAll_get cause
  have hunit : (t.centreAll cause).unit = t.unit := by rw [e]
  have hmon : (t.centreAll cause).mon = t.mon := by rw [e]
  refine ⟨⟨⟨fun j => ?_, ?_, ?_⟩, fun j => ?_⟩, fun hm => ?_⟩
  · rw [hcars]
    exact ((h.cars j).of_motion (ht.cars j)).centring.congr (by rw [hunit, ht.mode]) (by rw [hunit, ht.settings])
      fun _ => CarChannel.centred_state _
  · rw [hmon]; exact ht.inhibit h.inhibit
  · rw [hunit, ht.stagedLaw]; exact h.staged
  · rw [hcars, CarChannel.centred_offline, ht.state, hunit, ht.settings]; exact h.offline j
  · rw [hunit, ht.mode] at hm
    obtain ⟨j, hj, hn⟩ := t.drainComplete_false.mp (ht.drainComplete (h.draining hm))
    exact (drainComplete_false _).mpr ⟨j, by rw [hunit]; exact hj, by rw [hcars, CarChannel.centred_drained]; exact hn⟩

/-- A car-level cause keeps the train sound (R91, R92). -/
theorem State.TrainSound.carCause {s : State} (h : s.TrainSound) (i : CarId) (cause : LatchReason)
    (reaction : Reaction) : (s.carCause i cause reaction).TrainSound := by
  obtain ⟨e, -⟩ := s.carCause_spec i cause reaction h.trackingConfigured h.draining
  rw [e]
  exact (h.setCar (i := i) ((h.cars i).caused cause reaction) (CarChannel.caused_offline _ _ _)
    (CarChannel.caused_drained _ _ _)).leaves (.of_eq rfl rfl rfl rfl)

end Sys2Proof.Machine
end

section
/-! SUPPORT. The events that keep the train sound: the control frame, the outcomes of the actuator link, and the causes
that arise (R41, R87 to R94, R102, R119 to R135, R150 to R158). -/

namespace Sys2Proof.Machine

/-! ## The control frame -/

section Frame

variable {s : State}

theorem State.TrainFits.lawRecord (h : s.TrainFits) (i : CarId) : s.Admits (s.lawRecord i) := by
  unfold State.lawRecord
  split
  · next hq =>
    have hstill := (s.cars[i].quiet_iff.mp (Bool.and_eq_true_iff.mp hq).1).2
    exact (h.cars i).withLaw hstill h.staged _
  · exact h.cars i

/-- A car's turn in a frame makes a record that fits (R88). -/
theorem State.TrainFits.frameRecord (h : s.TrainFits) (v : Nat) (i : CarId) : s.Admits (s.frameRecord v i) := by
  have bounds := (s.setCar i (s.lawRecord i)).demand_bound v i
  rw [frameRecord_eq]
  split
  · exact ((h.lawRecord i).computed bounds.1 bounds.2).tested
  · exact h.lawRecord i

theorem State.testedRecord_offline (s : State) (c : CarChannel) :
    (s.testedRecord c).state = .offline ↔ c.state = .offline := by
  unfold testedRecord
  split
  · next hc => rw [hc.1]; split <;> exact ⟨nofun, nofun⟩
  · split
    · next hc => rw [hc.1]; exact ⟨nofun, nofun⟩
    · split
      · next hc => rw [hc.1]; exact ⟨nofun, nofun⟩
      · rfl

theorem State.frameRecord_offline (s : State) (v : Nat) (i : CarId) :
    (s.frameRecord v i).state = .offline ↔ s.cars[i].state = .offline := by
  rw [← s.lawRecord_state i, frameRecord_eq]
  split
  · exact s.testedRecord_offline _
  · rfl

/-- The records that a frame leaves, put in the place of those it found. -/
theorem State.TrainFits.frameRecords (h : s.TrainFits) (v : Nat) :
    ({ s with cars := s.frameRecords v } : State).TrainFits where
  cars i := by
    have hi : s.Admits (s.frameRecords v)[i] := by
      rw [frameRecords_get]
      split
      · exact h.frameRecord v i
      · exact h.cars i
    exact hi.congr rfl rfl hi.centred
  inhibit := h.inhibit
  staged := h.staged
  offline i := by
    change (s.frameRecords v)[i].state = .offline ↔ _
    rw [frameRecords_get]
    split
    · exact (s.frameRecord_offline v i).trans (h.offline i)
    · exact h.offline i

/-- The end of a frame that began as `s` (R87, R100). -/
theorem State.FrameAt.trainSound {u : State} {v : Nat} (h : s.FrameAt v s.configured u) (hs : s.TrainFits)
    (lead : Option Nat) : (u.evaluateLead lead).settle.TrainSound := by
  obtain ⟨e, -⟩ := h.settled lead
  have huw : (u.evaluateLead lead).mon = s.mon ∧ (u.evaluateLead lead).route.doubt = s.route.doubt
      ∧ (u.evaluateLead lead).cars = s.frameRecords v := by
    rw [← h.cars_eq, h.eq]; simp
  obtain ⟨hmon, hdoubt, hcars⟩ := huw
  generalize (u.evaluateLead lead) = w at *
  let told : State := { s with cars := s.frameRecords v }
  have hmode : told.settle.unit.mode = s.endMode u := by
    rw [told.settle_mode, State.endMode, h.cars_eq]; rfl
  refine (hs.frameRecords v).settle.leaves ?_
  exact
    { mode := by rw [e]; exact hmode.symm
      settings := by rw [e, settle_settings]
      stagedLaw := by rw [e, settle_stagedLaw]
      cars := fun i => by rw [e, settle_cars]; simp [hcars]
      inhibit := fun hi => by rw [e]; rw [settle_mon] at hi; simpa [hmon] using hi
      centring := fun hc => by
        rw [e] at hc
        simpa [centringActive, silenceCentres, hmon, hdoubt] using hc }

theorem State.TrainSound.controlFrame {t : State} (h : s.TrainSound) (he : execControlFrame s = .next t) :
    t.TrainSound := by
  injection he with he; subst he
  let timed : State := { s.runTo (s.frameStart + framePeriod) with frameStart := s.frameStart + framePeriod }
  let begun : State := { timed with gateOpen := gateAfter timed.speed s.unit.trainSet.vMin s.gateOpen }
  have hbegun : begun.TrainSound := h.leaves (.of_eq rfl rfl rfl rfl)
  obtain ⟨turns, -⟩ := (State.FrameAt.start begun timed.speed).all (after := begun.configured) rfl none false
  exact turns.trainSound hbegun.toTrainFits _

end Frame

/-! ## The actuator link -/

section Link

variable {s : State}

/-- An item that the soundness of a record does not read may change. -/
theorem State.setCar_leavesTrain (s : State) (i : CarId) (c : CarChannel) (h : c.motion = s.cars[i].motion) :
    s.LeavesTrain (s.setCar i c) where
  mode := rfl
  settings := rfl
  stagedLaw := rfl
  cars j := by
    rw [setCar_get]
    split
    · next hij => subst hij; exact h
    · rfl
  inhibit h := h
  centring h := h

theorem State.setHealth_leavesTrain (s : State) (i : CarId) (n : Nat) (w : Bool) : s.LeavesTrain (s.setHealth i n w) :=
  (s.setCar_leavesTrain i { s.cars[i] with healthReduce := 80 ≤ n } rfl).trans (.of_eq rfl rfl rfl rfl)

theorem State.setSuspended_leavesTrain (s : State) (i : CarId) (b : Bool) : s.LeavesTrain (s.setSuspended i b) :=
  (s.setCar_leavesTrain i { s.cars[i] with supervision := b } rfl).trans (.of_eq rfl rfl rfl rfl)

theorem State.setDriveFault_leavesTrain (s : State) (i : CarId) (b : Bool) : s.LeavesTrain (s.setDriveFault i b) :=
  s.setCar_leavesTrain i _ rfl

theorem State.setDrive_leavesTrain (s : State) (i : CarId) (d : Drive) : s.LeavesTrain (s.setDrive i d) :=
  .of_eq rfl rfl rfl rfl

theorem State.setPersistence_leavesTrain (s : State) (i : CarId) (n : Nat) : s.LeavesTrain (s.setPersistence i n) :=
  .of_eq rfl rfl rfl rfl

theorem State.TrainSound.followFault (h : s.TrainSound) (i : CarId) (st : Byte) (code previous : Nat) :
    (s.followFault i st code previous).TrainSound := by
  unfold State.followFault
  split
  · split
    · split
      · exact h.leaves (s.post_leavesTrain _ _ _ _)
      · exact h
    · exact ((h.leaves (s.setDriveFault_leavesTrain i true)).carCause i _ _).leaves (State.post_leavesTrain _ _ _ _ _)
  · split
    · exact h.leaves ((s.setDriveFault_leavesTrain i false).trans (State.post_leavesTrain _ _ _ _ _))
    · exact h

/-- ROUTE_DOUBT arises with its reaction (R41, R91). -/
theorem State.TrainSound.raiseDoubt (h : s.TrainSound) (i j : CarId) (d : Int) : (s.raiseDoubt i j d).TrainSound := by
  unfold State.raiseDoubt
  split
  · exact h
  · exact h.centreAll (.of_eq (by simp) (by simp) (by simp)) _

theorem State.TrainSound.consult (h : s.TrainSound) (i : CarId) (p : Nat) : (s.consult i p).TrainSound := by
  unfold State.consult
  split
  · exact h.raiseDoubt _ _ _
  · split
    · exact h
    · exact h.leaves (.of_eq rfl rfl rfl rfl)

theorem State.TrainSound.confirmMismatch (h : s.TrainSound) (i : CarId) (p : Nat) (residual predicted : Int) :
    (s.confirmMismatch i p residual predicted).TrainSound := by
  have suspended := h.leaves ((s.setPersistence_leavesTrain i 0).trans (State.setSuspended_leavesTrain _ i true))
  exact ((suspended.carCause i _ _).leaves (State.post_leavesTrain _ _ _ _ _)).consult i p

theorem State.TrainSound.superviseReply (h : s.TrainSound) (i : CarId) (r : DriveReport) :
    (s.superviseReply i r).TrainSound := by
  have counted : ∀ n, (s.setPersistence i n).TrainSound := fun n => h.leaves (s.setPersistence_leavesTrain i n)
  unfold State.superviseReply State.testResidual
  dsimp only
  (repeat' split)
  case h_2.isTrue.isTrue => exact h.confirmMismatch _ _ _ _
  all_goals exact counted _

/-- A PROBING car that passes becomes CENTRED (R127). -/
theorem State.TrainSound.countProbe (h : s.TrainSound) {i : CarId} (hi : s.cars[i].state = .probing) (st : Byte)
    (tilt : Int) : (s.countProbe i st tilt).TrainSound := by
  have counted : ∀ d, (s.setDrive i d).TrainSound := fun d => h.leaves (s.setDrive_leavesTrain i d)
  unfold State.countProbe
  dsimp only
  split
  · split
    · have idle := ((h.cars i).idle (by simp [hi, -Fin.getElem_fin])).into (st := .centred) ⟨nofun, nofun, nofun⟩
      exact (counted _).transition_self idle.admits (by simp [hi, -Fin.getElem_fin]) _
    · exact counted _
  · exact counted _

/-- A reaction to DRIVE_FAULT leaves a PROBING car PROBING (Table 5-5). -/
theorem State.followFault_probing {i : CarId} (hi : s.cars[i].state = .probing) (st : Byte) (code previous : Nat) :
    (s.followFault i st code previous).cars[i].state = .probing := by
  have unmoved : ∀ (c : CarChannel) cause reaction, c.state = .probing → (c.caused cause reaction).state = .probing := by
    intro c cause reaction hc
    unfold CarChannel.caused; rw [hc]; exact hc
  unfold followFault
  split
  · split
    · split
      · exact ((s.post_leavesTrain _ _ _ _).state i).trans hi
      · exact hi
    · refine ((State.post_leavesTrain _ _ _ _ _).state i).trans ?_
      rw [carCause_get, if_pos rfl, setDriveFault_get, if_pos rfl]
      exact unmoved _ _ _ hi
  · split
    · exact (((s.setDriveFault_leavesTrain i false).trans (State.post_leavesTrain _ _ _ _ _)).state i).trans hi
    · exact hi

theorem State.TrainSound.applyGood (h : s.TrainSound) (i : CarId) (st : Byte) (r : DriveReport) :
    (s.applyGood i st r).TrainSound := by
  have healed : s.LeavesTrain (s.healReply i) := s.setHealth_leavesTrain i _ _
  have kept := healed.trans (State.setDrive_leavesTrain _ i { (s.healReply i).link.drives[i] with lastGood := some r })
  unfold State.applyGood
  extract_lets probing previous healed' drive stored followed supervised
  have hfollowed : followed.TrainSound := (h.leaves kept).followFault i st _ _
  by_cases hp : s.cars[i].state = .probing
  · have hprobing : probing = true := by simpa [probing, -Fin.getElem_fin] using hp
    have hsame : supervised = followed := if_neg (by simp [hprobing])
    rw [if_pos hprobing, hsame]
    exact hfollowed.countProbe (State.followFault_probing ((kept.state i).trans hp) _ _ _) _ _
  · have hprobing : ¬ probing = true := by simpa [probing, -Fin.getElem_fin] using hp
    rw [if_neg hprobing]
    simp only [supervised]
    split
    · exact hfollowed.superviseReply i r
    · exact hfollowed

/-- Isolation of a car of the train (R102, R123). -/
theorem State.TrainSound.isolate (h : s.TrainSound) {i : CarId} (hi : s.cars[i].state ≠ .offline) (corrupt : Bool) :
    (s.isolate i corrupt).TrainSound := by
  have kept := h.leaves ((s.setDrive_leavesTrain i { s.link.drives[i] with probing := 0 }).trans
    (State.setPersistence_leavesTrain _ i 0))
  have idle : (CarChannel.into { s.cars[i] with theta := 0, omega := 0, latchReason := none } .isolated).Idle :=
    ⟨⟨nofun, nofun, nofun⟩, ⟨rfl, rfl⟩, ⟨rfl, rfl⟩, rfl, (h.cars i).law⟩
  have entered := kept.enter (i := i) idle.admits ⟨nofun, fun e => absurd e hi⟩ .isolation
  exact (entered.leaves (State.post_leavesTrain _ _ _ _ _)).settle

/-- A miss or a corrupt reply of a car of the train (R120, R121, R123). -/
theorem State.TrainSound.failReply (h : s.TrainSound) {i : CarId} (hi : s.cars[i].state ≠ .offline) (corrupt : Bool) :
    (s.failReply i corrupt).TrainSound := by
  have counted : ∀ n w, s.LeavesTrain (s.setHealth i n w) := s.setHealth_leavesTrain i
  unfold State.failReply
  dsimp only
  split
  · exact (h.leaves (counted _ _)).isolate (by rw [(counted _ _).state]; exact hi) corrupt
  · split
    · exact h.leaves ((counted _ _).trans (State.post_leavesTrain _ _ _ _ _))
    · exact h.leaves (counted _ _)

/-- A miss or a corrupt reply of a PROBING car (R127). -/
theorem State.TrainSound.failProbe (h : s.TrainSound) {i : CarId} (hi : s.cars[i].state = .probing) (corrupt : Bool) :
    (s.failProbe i corrupt).TrainSound := by
  have kept := (s.setHealth_leavesTrain i 160 true).trans
    (State.setDrive_leavesTrain _ i { (s.setHealth i 160 true).link.drives[i] with probing := 0 })
  have hstate := (kept.state i).trans hi
  have hsound := h.leaves kept
  have idle := ((hsound.cars i).idle (by rw [hstate]; exact ⟨nofun, nofun, nofun⟩)).into (st := .isolated)
    ⟨nofun, nofun, nofun⟩
  have entered := hsound.enter_self idle.admits (by rw [hstate]; exact ⟨nofun, nofun⟩) .probeFailed
  exact (entered.leaves (State.post_leavesTrain _ _ _ _ _)).settle

/-- The outcome of a transaction keeps the train sound (R119). -/
theorem State.TrainSound.applyOutcome (h : s.TrainSound) (i : CarId) (o : TransactionEnd) :
    (s.applyOutcome i o).TrainSound := by
  unfold State.applyOutcome
  split
  · next hp =>
    have hi : s.cars[i].state ≠ .offline := fun e => by rw [e] at hp; cases hp
    have failed : ∀ corrupt, (if s.cars[i].state = .probing then s.failProbe i corrupt
        else s.failReply i corrupt).TrainSound := by
      intro corrupt
      split
      · next hprobing => exact h.failProbe hprobing corrupt
      · exact h.failReply hi corrupt
    cases o with
    | good st r => exact h.applyGood i st r
    | corrupt => exact failed true
    | miss => exact failed false
  · exact h

theorem State.TrainSound.finish (h : s.TrainSound) (c : PollCycle) (o : TransactionEnd) : (s.finish c o).TrainSound :=
  (h.applyOutcome c.current o).leaves
    (.of_eq (by simp [State.finish]) (by simp [State.finish]) (by simp [State.finish]) (by simp [State.finish]))

/-! ## Bytes on the actuator link -/

theorem State.TrainSound.runTo (h : s.TrainSound) (n : Nat) : (s.runTo n).TrainSound :=
  h.leaves (.of_eq rfl rfl rfl rfl)

theorem State.TrainSound.setPhase (h : s.TrainSound) (c : PollCycle) (p : Phase) : (s.setPhase c p).TrainSound :=
  h.leaves (.of_eq rfl rfl rfl rfl)

theorem State.TrainSound.takeByte (h : s.TrainSound) (c : PollCycle) (opened : Nat) (q : Byte) (held : List RxByte) :
    (s.takeByte c opened q held).TrainSound := by
  unfold State.takeByte
  split
  · exact h.setPhase _ _
  · exact h.finish _ _

theorem State.TrainSound.hearByte (h : s.TrainSound) (b : RxByte) : (s.hearByte b).TrainSound := by
  have held : s.holdLine.TrainSound := h.leaves (.of_eq rfl rfl rfl rfl)
  unfold State.hearByte
  split
  · split
    · split
      · exact held.takeByte _ _ _ _
      · exact held
    · exact held.takeByte _ _ _ _
    · exact held
    · exact h
  · exact held

theorem State.TrainSound.endIdle (h : s.TrainSound) (limit : Nat) : (s.endIdle limit).TrainSound := by
  unfold State.endIdle
  dsimp only
  (repeat' split)
  case h_1.isTrue => exact (h.runTo _).finish _ _
  all_goals exact h

theorem State.TrainSound.byteAfter (h : s.TrainSound) (wait : Nat) (b : RxByte) : (s.byteAfter wait b).TrainSound :=
  ((h.endIdle _).runTo _).hearByte b

theorem State.TrainSound.hearRun (h : s.TrainSound) (bytes : List RxByte) : (s.hearRun bytes).TrainSound := by
  induction bytes generalizing s with
  | nil => exact h
  | cons b more ih => exact ih (h.byteAfter _ b)

theorem State.TrainSound.statusReception {t : State} (h : s.TrainSound) {dt : Nat} {bytes : List RxByte}
    (he : execStatusReception dt bytes s = .next t) : t.TrainSound := by
  injection he with he; subst he
  cases bytes with
  | nil => exact State.TrainSound.endIdle (s := s.after dt) (h.leaves (.of_eq rfl rfl rfl rfl)) _
  | cons b more => exact (h.byteAfter dt b).hearRun more

theorem State.TrainSound.turnWaitLimit {t : State} (h : s.TrainSound) (he : execTurnWaitLimit s = .next t) :
    t.TrainSound := by
  injection he with he; subst he
  (repeat' split)
  case h_1.isFalse => exact (h.runTo _).finish _ _
  all_goals exact h

theorem State.TrainSound.replyWindowClose {t : State} (h : s.TrainSound) (he : execReplyWindowClose s = .next t) :
    t.TrainSound := by
  injection he with he; subst he
  split
  · split
    · exact (h.runTo _).finish _ _
    · exact h.runTo _
    · exact h
    · exact h
  · exact h

end Link

/-! ## Causes that arise and end -/

section Conditions

variable {s t : State}

/-- The level leaves the filter changed to the samples' level, or as it was (R150). -/
theorem filterRun_level (level : Bool) (run : Nat) (sample : Bool) (n : Nat) :
    (filterRun level run sample n).1 = if (filterRun level run sample n).2.2 then sample else level := by
  unfold filterRun
  (repeat' split) <;> simp_all

/-- INHIBIT follows the filtered level up, and comes with its reaction (R150, R151). -/
theorem State.TrainSound.inhibitSet (h : s.TrainSound) {dt highs : Nat} (he : execInhibitSet dt highs s = .next t) :
    t.TrainSound := by
  injection he with he; subst he
  have hlevel := filterRun_level s.mon.inhibitLevel s.mon.inhibitRun true highs
  split
  · next hc =>
    have hhigh := hlevel.trans (if_pos hc)
    exact h.centreAll ⟨by simp, by simp, by simp, by simp, fun _ => by simp [hhigh]⟩ _
  · next hc =>
    have hsame := hlevel.trans (if_neg hc)
    exact h.leaves ⟨⟨rfl, rfl, rfl, fun _ => rfl, fun hi => hi.trans hsame.symm⟩, fun hi => hi⟩

/-- INHIBIT follows the filtered level down (R150, R152). -/
theorem State.TrainSound.inhibitClear (h : s.TrainSound) {dt lows : Nat} (he : execInhibitClear dt lows s = .next t) :
    t.TrainSound := by
  injection he with he; subst he
  have hlevel := filterRun_level s.mon.inhibitLevel s.mon.inhibitRun false lows
  split
  · next hc =>
    have hlow := hlevel.trans (if_pos hc)
    refine h.leaves ⟨⟨by simp, by simp, by simp, by simp, fun _ => by simp [hlow]⟩, fun hi => ?_⟩
    rw [centringActive_iff] at hi
    exact s.centringActive_iff.mpr (.inr (by simpa [silenceCentres] using hi))
  · next hc =>
    have hsame := hlevel.trans (if_neg hc)
    exact h.leaves ⟨⟨rfl, rfl, rfl, fun _ => rfl, fun hi => hi.trans hsame.symm⟩, fun hi => hi⟩

/-- LINK_SILENT arises, with its reaction where it is a centring cause (R158). -/
theorem State.TrainSound.linkSilentOnset (h : s.TrainSound) (he : execLinkSilentOnset s = .next t) : t.TrainSound := by
  injection he with he; subst he
  split
  · let silenced : State :=
      { s.runTo (s.mon.silenceFrom + s.unit.settings.silenceTime * 1000) with mon := { s.mon with linkSilent := true } }
    have carried : s.CarriesTrain silenced := ⟨rfl, rfl, rfl, fun _ => rfl, fun hi => hi⟩
    change (if silenced.silenceCentres then silenced.centreAll .linkSilent else silenced).TrainSound
    split
    · exact h.centreAll carried _
    · next hc =>
      refine h.leaves ⟨carried, fun hi => ?_⟩
      rw [centringActive_iff] at hi
      exact s.centringActive_iff.mpr (hi.imp_right (Or.imp_right fun hs => absurd hs hc))
  · exact h

/-- A silence that ends takes its cause away (R159). -/
theorem State.heardFrame_leavesTrain (s : State) : s.LeavesTrain s.heardFrame := by
  have hmon : s.heardFrame.mon.inhibit = s.mon.inhibit ∧ s.heardFrame.mon.inhibitLevel = s.mon.inhibitLevel
      ∧ (s.heardFrame.mon.linkSilent = true → s.mon.linkSilent = true) := by
    unfold heardFrame; dsimp only; split <;> simp
  obtain ⟨hinhibit, hlevel, hsilent⟩ := hmon
  refine ⟨⟨by simp, by simp, by simp, by simp, fun hi => by rw [hinhibit, hlevel, hi]⟩, fun hi => ?_⟩
  rw [centringActive_iff, hinhibit] at hi
  refine s.centringActive_iff.mpr (hi.imp_right (Or.imp (fun hd => by simpa using hd) fun hs => ?_))
  simp only [silenceCentres, Bool.and_eq_true] at hs ⊢
  exact ⟨hsilent hs.1, by simpa using hs.2⟩

theorem State.switchover_leavesTrain (s : State) : s.LeavesTrain s.switchover := by
  refine ⟨⟨by simp, by simp, by simp, by simp, ?_⟩, ?_⟩
  · simp [switchover]
  · simp [switchover, centringActive, silenceCentres]

end Conditions

end Sys2Proof.Machine
end

section
/-! SUPPORT. The requests that keep the train sound, the two starts, and every step (O57). -/

namespace Sys2Proof.Machine

/-! ## Requests that change the train -/

section Requests

variable {s : State}

/-- A release makes a LATCHED car CENTRED (R104). -/
theorem State.TrainSound.release (h : s.TrainSound) {i : CarId} (hi : s.cars[i].state = .latched) :
    (s.release i).TrainSound := by
  have hstill := (h.cars i).rest (by rw [hi]; nofun) (by rw [hi]; nofun)
  have idle : (CarChannel.into { s.cars[i] with latchReason := none } .centred).Idle :=
    ⟨⟨nofun, nofun, nofun⟩, hstill, ⟨rfl, rfl⟩, rfl, (h.cars i).law⟩
  exact h.transition (i := i) idle.admits (by rw [hi]; exact ⟨nofun, nofun⟩) .resumeRequest

theorem State.TrainSound.releaseCars (h : s.TrainSound) (l : List CarId) (n : Nat) :
    (releaseCars l s n).1.TrainSound := by
  induction l generalizing s n with
  | nil => exact h
  | cons i l ih =>
    unfold Machine.releaseCars
    split
    · next hr =>
      have hi : s.cars[i].state = .latched := by
        simpa using (Bool.and_eq_true_iff.mp hr).1
      exact ih (h.release hi) _
    · exact ih h _

theorem State.TrainSound.requestResume (h : s.TrainSound) (car : Byte) : (requestResume car s).state.TrainSound := by
  unfold Machine.requestResume
  split
  · exact h.releaseCars _ _
  · split
    · exact h
    · split
      · exact h
      · next hi =>
        split
        · exact h
        · exact h.release (not_not.mp hi)

/-- READMIT takes an ISOLATED car into PROBING (R126). -/
theorem State.TrainSound.requestReadmit (h : s.TrainSound) (car : Byte) : (requestReadmit car s).state.TrainSound := by
  unfold Machine.requestReadmit
  split
  · exact h
  · next i _ =>
    split
    · exact h
    · next hi =>
      have hi := not_not.mp hi
      have kept := (s.setHealth_leavesTrain i 0 false).trans
        (State.setDrive_leavesTrain _ i { (s.setHealth i 0 false).link.drives[i] with probing := 0 })
      have hstate := (kept.state i).trans hi
      have hsound := h.leaves kept
      have idle := ((hsound.cars i).idle (by rw [hstate]; exact ⟨nofun, nofun, nofun⟩)).into (st := .probing)
        ⟨nofun, nofun, nofun⟩
      have probed := hsound.transition_self idle.admits (by rw [hstate]; exact ⟨nofun, nofun⟩) .readmit
      exact probed.leaves (.of_eq (by simp) (by simp) (by simp) (by simp))

/-- A change to RUN or DRAINING asks nothing of the records. -/
theorem State.TrainFits.changeMode (h : s.TrainFits) {m : Mode} (hm : m ≠ .config) : (s.changeMode m).TrainFits := by
  rw [changeMode_eq]
  exact
    { cars := fun i => { h.cars i with config := fun e => absurd e hm }
      inhibit := h.inhibit, staged := h.staged, offline := h.offline }

/-- SET_MODE RUN (R167). -/
theorem State.TrainSound.requestSetModeRun (h : s.TrainSound) : (requestSetModeRun s).state.TrainSound := by
  unfold Machine.requestSetModeRun
  (repeat' split)
  case h_1.isFalse.isTrue => exact ⟨h.toTrainFits.changeMode nofun, fun hm => by simp at hm⟩
  all_goals exact h

theorem State.TrainFits.drainCar (h : s.TrainFits) (i : CarId) : (s.drainCar i).TrainFits := by
  unfold State.drainCar centreCar
  split
  · split
    · next hi =>
      exact (h.transition_self ((h.cars i).returning hi _) (by rw [hi]; exact ⟨nofun, nofun⟩) .drain).toTrainFits
    · exact h
  · exact h

/-- SET_MODE CONFIG: the drain begins, and may be complete at once (R168, R169). -/
theorem State.TrainSound.requestSetModeConfig (h : s.TrainSound) : (requestSetModeConfig s).state.TrainSound := by
  unfold Machine.requestSetModeConfig
  split
  · have draining := h.toTrainFits.changeMode (m := .draining) nofun
    rw [Answer.done_state]
    exact (foldl_keeps State.TrainFits State.drainCar (fun _ i hs => hs.drainCar i) allCars _ draining).settle
  · exact h
  · exact h

theorem State.TrainSound.copyLaw (h : s.TrainSound) {i : CarId} (hi : s.cars[i].omega = 0) :
    (s.copyLaw i).TrainSound :=
  h.setCar (i := i) ((h.cars i).withLaw hi h.staged _) Iff.rfl rfl

/-- A record takes the staged law in CONFIG or at rest, where its rate is 0 (R95). -/
theorem State.TrainSound.stageCar (h : s.TrainSound) (i : CarId) : (s.stageCar i).TrainSound := by
  unfold State.stageCar
  dsimp only
  split
  · next hc =>
    have homega : s.cars[i].omega = 0 := by
      rcases Bool.or_eq_true_iff.mp hc with hm | hq
      · obtain ⟨htracking, hreturning⟩ := (h.cars i).config (by simpa using hm)
        exact ((h.cars i).rest htracking hreturning).2
      · simp only [Bool.and_eq_true] at hq
        exact (s.cars[i].quiet_iff.mp hq.1.1).2
    split
    · exact h.copyLaw homega
    · exact (h.copyLaw homega).leaves (State.post_leavesTrain _ _ _ _ _)
  · exact h

theorem TiltLaw.sound_lawOf {p : LawPayload} (h : firstBad (lawChecks p) = none) : (lawOf p).Sound := h

/-- SET_TILT_LAW (R172). -/
theorem State.TrainSound.requestSetTiltLaw (h : s.TrainSound) (p : LawPayload) :
    (requestSetTiltLaw p s).state.TrainSound := by
  unfold Machine.requestSetTiltLaw
  split
  · exact h
  · next hgood =>
    rw [Answer.done_state]
    refine foldl_keeps State.TrainSound State.stageCar (fun _ i hs => hs.stageCar i) allCars _ ?_
    exact
      { cars := fun i => (h.cars i).congr rfl rfl (h.cars i).centred
        inhibit := h.inhibit, staged := TiltLaw.sound_lawOf hgood, offline := h.offline, draining := h.draining }

/-- A large fix is a centring cause of its own, POSITION_JUMP (R18). -/
theorem State.TrainSound.requestPositionFix (h : s.TrainSound) (n : Byte) (x : BitVec 32) :
    (requestPositionFix n x s).state.TrainSound := by
  cases hf : findCapture n s.odo.captures with
  | none => rw [requestPositionFix_missing hf]; exact h
  | some found =>
    obtain ⟨captured, newer⟩ := found
    rw [requestPositionFix_found hf, Answer.done_state]
    generalize (x.toNat - captured : Int) = c
    have reported : s.LeavesTrain (s.fixReported c newer) := .of_eq (by simp [State.fixReported, State.fixMoved])
      (by simp [State.fixReported, State.fixMoved]) (by simp [State.fixReported, State.fixMoved])
      (by simp [State.fixReported, State.fixMoved])
    unfold State.fixApplied
    split
    · exact h.centreAll reported.toCarriesTrain _
    · exact h.leaves reported

end Requests

/-! ## CONFIGURE_TRAIN -/

section Configure

variable {s : State}

/-- A car is OFFLINE exactly when the settings do not configure it (R86). -/
def State.Placed (s : State) (i : CarId) : Prop :=
  s.cars[i].state = .offline ↔ s.unit.settings.carCount ≤ i.val

/-- The record of a car made part of the train, before it becomes CENTRED (R106). -/
def CarChannel.admitted (c : CarChannel) (tiltMax : Nat) : CarChannel :=
  { c with
    theta := 0, omega := 0, limit := tiltMax, driveFault := false, supervision := false, healthReduce := false,
    latchReason := none, lastPosition := none, lastLookAhead := none }

/-- The record of a car dropped from the train, before it becomes OFFLINE (R106). -/
def CarChannel.dropped (c : CarChannel) : CarChannel :=
  { c with
    driveFault := false, supervision := false, healthReduce := false, latchReason := none, lastPosition := none,
    lastLookAhead := none }

theorem State.admitCar_eq (s : State) (i : CarId) : s.admitCar i
    = (s.setCar i (s.cars[i].admitted s.unit.settings.tiltMax)).transition i .centred .configure := rfl

theorem State.dropCar_eq (s : State) (i : CarId) :
    s.dropCar i = (s.setCar i s.cars[i].dropped).transition i .offline .configure := rfl

/-- In CONFIG, a car's turn in CONFIGURE_TRAIN makes a record that fits and is of the train as CAR_COUNT has it (R106,
R171). -/
theorem State.recount_spec (h : s.RecordsFit) (hm : s.unit.mode = .config) (i : CarId) :
    ∃ c, s.Admits c ∧ (c.state = .offline ↔ s.unit.settings.carCount ≤ i.val)
      ∧ (s.setCar i c).LeavesTrain (s.recount i) := by
  have entered : ∀ c st, ((s.setCar i c).transition i st .configure) = (s.setCar i c).enter i st .configure :=
    fun c st => (s.setCar i c).transition_eq i st _ (.inl (by rw [setCar_unit, hm]; nofun))
  obtain ⟨htracking, hreturning⟩ := (h.cars i).config hm
  have kept : ∀ hs : s.cars[i].state = .offline ↔ s.unit.settings.carCount ≤ i.val, ∃ c, s.Admits c
      ∧ (c.state = .offline ↔ s.unit.settings.carCount ≤ i.val) ∧ (s.setCar i c).LeavesTrain s := fun hs =>
    ⟨s.cars[i], h.cars i, hs, by rw [s.setCar_self]; exact .refl s⟩
  unfold recount
  split
  · next hi =>
    split
    · have idle : ((s.cars[i].admitted s.unit.settings.tiltMax).into .centred).Idle :=
        ⟨⟨nofun, nofun, nofun⟩, ⟨rfl, rfl⟩, ⟨rfl, rfl⟩, rfl, (h.cars i).law⟩
      refine ⟨_, idle.admits, ⟨nofun, fun hn => by omega⟩, ?_⟩
      rw [admitCar_eq, entered]
      exact s.enter_leavesTrain i _ _ _
    · next hs => exact kept ⟨fun e => absurd e hs, fun hn => by omega⟩
  · next hi =>
    split
    · next hs => exact kept ⟨fun _ => by omega, fun _ => hs⟩
    · have idle : (s.cars[i].dropped.into .offline).Idle :=
        ⟨⟨nofun, nofun, nofun⟩, (h.cars i).rest htracking hreturning, ⟨rfl, rfl⟩, rfl, (h.cars i).law⟩
      refine ⟨_, idle.admits, ⟨fun _ => by omega, fun _ => rfl⟩, ?_⟩
      rw [dropCar_eq, entered]
      exact s.enter_leavesTrain i _ _ _

/-- The cars' turns in CONFIGURE_TRAIN together (R171). -/
theorem State.recount_list (l : List CarId) (h : s.RecordsFit) (hm : s.unit.mode = .config) :
    (l.foldl State.recount s).RecordsFit ∧ (l.foldl State.recount s).unit.mode = .config
      ∧ ∀ j, j ∈ l ∨ s.Placed j → (l.foldl State.recount s).Placed j := by
  induction l generalizing s with
  | nil => exact ⟨h, hm, fun j hj => hj.resolve_left (by simp)⟩
  | cons i l ih =>
    obtain ⟨c, hc, hplaced, left⟩ := recount_spec h hm i
    have hplace : ∀ j, j = i ∨ s.Placed j → (s.recount i).Placed j := by
      intro j hj
      unfold Placed
      rw [left.state, left.settings, setCar_get]
      split
      · next hij => rw [← hij]; exact hplaced
      · next hij => exact hj.resolve_left (Ne.symm hij)
    obtain ⟨hfit, hmode, hall⟩ := ih ((h.setCar hc).leaves left) (left.mode.trans hm)
    refine ⟨hfit, hmode, fun j hj => hall j ?_⟩
    rcases hj with hj | hj
    · exact (List.mem_cons.mp hj).elim (fun e => .inr (hplace j (.inl e))) .inl
    · exact .inr (hplace j (.inr hj))

theorem State.TrainSound.requestConfigureTrain (h : s.TrainSound) (p : TrainPayload) :
    (requestConfigureTrain p s).state.TrainSound := by
  unfold Machine.requestConfigureTrain
  split
  · exact h
  · next hm =>
    have hm : s.unit.mode = .config := not_not.mp hm
    split
    · exact h
    · let configured : State := { s with unit := { s.unit with settings := trainSettings p } }
      have hfit : configured.RecordsFit :=
        { cars := fun i => (h.cars i).in_config hm, inhibit := h.inhibit, staged := h.staged }
      obtain ⟨hrecords, hmode, hplaced⟩ := State.recount_list allCars hfit hm
      have recounted : (allCars.foldl State.recount configured).TrainSound :=
        { toRecordsFit := hrecords, offline := fun i => hplaced i (.inl (mem_allCars i))
          draining := fun e => by rw [hmode] at e; cases e }
      have left : ∀ (u : State) joins, u.LeavesTrain (u.leaveToNextCycle joins) :=
        fun u joins => .of_eq (by simp) (by simp) (by simp) (by simp)
      rw [Answer.done_state]
      refine recounted.leaves (.trans ?_ (left _ _))
      exact .of_foldl State.forgetCar (fun _ _ => .of_eq rfl rfl rfl rfl) _ _

end Configure

end Sys2Proof.Machine
end

section
/-! SUPPORT. Every command and so every step keeps the train sound (O57). -/

namespace Sys2Proof.Machine

/-! ## The two starts -/

/-- A car is at rest after a RESTART, whatever it was before (R112). -/
theorem State.Admits.restarted {s : State} {c : CarChannel} (h : s.Admits c) (d : Drive) (tiltMax : Nat) :
    (c.restarted d tiltMax).Idle ∧ ((c.restarted d tiltMax).state = .offline ↔ c.state = .offline) := by
  unfold CarChannel.restarted
  split
  · next hc =>
    have idle := h.idle (by rw [hc]; exact ⟨nofun, nofun, nofun⟩)
    exact ⟨{ idle with law := TiltLaw.sound_default }, Iff.rfl⟩
  · next hc =>
    have hstate : restartState c.state = .centred ∨ restartState c.state = .isolated := by
      cases hs : c.state <;> simp [hs, restartState] at hc ⊢
    refine ⟨⟨?_, ⟨rfl, rfl⟩, ⟨rfl, rfl⟩, rfl, TiltLaw.sound_default⟩, fun e => ?_, fun e => absurd e hc⟩
    · change restartState c.state ≠ _ ∧ restartState c.state ≠ _ ∧ restartState c.state ≠ _
      rcases hstate with e | e <;> rw [e] <;> exact ⟨nofun, nofun, nofun⟩
    · change restartState c.state = _ at e
      rcases hstate with e' | e' <;> rw [e'] at e <;> cases e

theorem State.TrainSound.restart {s : State} (h : s.TrainSound) : s.restart.TrainSound := by
  have hcar := fun i : CarId => (s.restart_car i).1
  have hrestarted := fun i : CarId => (h.cars i).restarted s.link.drives[i] s.unit.settings.tiltMax
  have hsettings : s.restart.unit.settings = s.unit.settings := by rw [restart_eq]
  refine ⟨⟨⟨fun i => ?_, ?_, ?_⟩, fun i => ?_⟩, fun hm => ?_⟩
  · rw [hcar]; exact (hrestarted i).1.admits
  · rw [restart_eq]; exact h.inhibit
  · rw [restart_eq]; exact TiltLaw.sound_default
  · rw [hcar, hsettings]; exact (hrestarted i).2.trans (h.offline i)
  · rw [restart_eq] at hm; cases hm

theorem State.TrainSound.hardwareReset {b : Bool} {s t : State} (he : execHardwareReset b s = .next t) :
    t.TrainSound := by
  injection he with he; subst he
  have reset : State.reset.TrainSound := State.reset.trainSound_iff.mpr ⟨State.reset_carsSound, State.reset_tiltSound⟩
  refine reset.leaves (.trans (t := { State.blank (if b then .powerOn else .resetLine) with pending := s.pending })
    ?_ (State.post_leavesTrain _ _ _ _ _))
  exact ⟨⟨rfl, rfl, rfl, fun _ => rfl, fun hi => hi⟩, fun hi => hi⟩

/-! ## Requests -/

/-- Every request keeps the train sound. -/
theorem State.TrainSound.request {c : Instr} {k tag : Byte} {m : State → Answer} {s : State}
    (hm : requestMeaning c = some (k, tag, m)) (h : s.TrainSound) : (m s).state.TrainSound := by
  cases c <;> simp only [requestMeaning, reduceCtorEq, Option.some.injEq, Prod.mk.injEq] at hm <;>
    obtain ⟨-, -, rfl⟩ := hm
  case configureTrain g p => exact h.requestConfigureTrain p
  case setTiltLaw g p => exact h.requestSetTiltLaw p
  case setTrainSet g p =>
    unfold requestSetTrainSet
    split
    · exact h
    · rw [Answer.done_state]
      split <;> exact h.leaves ⟨⟨rfl, rfl, rfl, fun _ => rfl, fun hi => hi⟩, fun hi => hi⟩
  case setModeRun g => exact h.requestSetModeRun
  case setModeConfig g => exact h.requestSetModeConfig
  case setPosition g x =>
    unfold requestSetPosition
    (repeat' split)
    case isFalse.isFalse => exact h.leaves (.of_eq (by simp) (by simp) (by simp) (by simp))
    all_goals exact h
  case positionFix g n x => exact h.requestPositionFix n x
  case routeAppend g a rs =>
    unfold requestRouteAppend
    (repeat' split) <;> exact h.leaves (.of_eq (by simp [State.append]) (by simp [State.append])
      (by simp [State.append]) (by simp [State.append]))
  case routeTruncate g x =>
    unfold requestRouteTruncate
    (repeat' split) <;> exact h.leaves (.of_eq rfl rfl rfl rfl)
  case routeClear g => exact h.leaves (.of_doubt rfl rfl rfl nofun)
  case routeConfirm g =>
    unfold requestRouteConfirm
    split
    · exact h.leaves (.of_doubt rfl rfl rfl nofun)
    · exact h
  case resume g x => exact h.requestResume x
  case resumeAll g => exact h.releaseCars _ _
  case readmit g x => exact h.requestReadmit x
  case queryCar g x => unfold requestQueryCar; split <;> exact h
  case queryRoute g x => unfold requestQueryRoute; split <;> exact h
  case restart g =>
    unfold requestRestart
    split <;> exact h.leaves (.of_eq rfl rfl rfl rfl)
  case identify | queryTrain => exact h

/-! ## Every command -/

/-- The commands of the Odometry Unit and of the polling leave the train. -/
theorem exec_leavesTrain {c : Instr} {s t : State} (he : exec c s = .next t)
    (hc : (∃ dt ch f n, c = .tachoPulse dt ch f n) ∨ (∃ ch, c = .tachoStall ch) ∨ c = .comparisonWindow
      ∨ (∃ dt l, c = .markerPulse dt l) ∨ (∃ dt n, c = .clockWindow dt n) ∨ c = .pollCycleExpiry
      ∨ (∃ n, c = .setpointSend n) ∨ c = .setpointSent) : s.LeavesTrain t := by
  rcases hc with ⟨dt, ch, f, n, rfl⟩ | ⟨ch, rfl⟩ | rfl | ⟨dt, l, rfl⟩ | ⟨dt, n, rfl⟩ | rfl | ⟨n, rfl⟩ | rfl <;>
    injection he with he <;> subst he
  case inr.inr.inr.inl =>
    refine (s.after_leavesTrain dt).trans (.of_foldl State.markerSample (fun s b => ?_) l _)
    exact .of_eq (by simp) (by simp) (by simp) (by simp)
  case inr.inr.inr.inr.inl =>
    split
    · exact (s.after_leavesTrain dt).trans (State.switchover_leavesTrain _)
    · exact s.after_leavesTrain dt
  all_goals
    (try dsimp only)
    (repeat' split) <;> exact .of_eq (by simp) (by simp) (by simp) (by simp)

theorem State.TrainSound.exec {c : Instr} {s t : State} (he : exec c s = .next t) (h : s.TrainSound) :
    t.TrainSound := by
  have control := fun hc => keeps_control (P := State.TrainSound) (fun _ _ h => h.leaves (.of_eq rfl rfl rfl rfl))
    (fun _ _ _ _ _ hm h => h.request hm) (fun s h => h.leaves s.heardFrame_leavesTrain)
    (fun _ _ _ h => h.leaves (.of_eq rfl rfl rfl rfl)) (fun _ h => h.restart) c hc he h
  have left := fun hc => h.leaves (exec_leavesTrain he hc)
  cases c
  case hardwareReset b => exact .hardwareReset he
  case inhibitSet => exact h.inhibitSet he
  case inhibitClear => exact h.inhibitClear he
  case linkSilentOnset => exact h.linkSilentOnset he
  case controlFrame => exact h.controlFrame he
  case turnWaitLimit => exact h.turnWaitLimit he
  case replyWindowClose => exact h.replyWindowClose he
  case statusReception => exact h.statusReception he
  case tachoPulse | tachoStall | comparisonWindow | markerPulse | clockWindow | pollCycleExpiry | setpointSend
    | setpointSent => exact left (by simp)
  all_goals exact control (by simp [requestMeaning])

/-- Settles O57: every command keeps the train sound, and a step is one command or 1 µs. -/
theorem trainStaysSound : Obligations.TrainStaysSound := by
  intro s t hstep hcars htilt
  have h : s.TrainSound := s.trainSound_iff.mpr ⟨hcars, htilt⟩
  rw [← t.trainSound_iff]
  rcases step_cases hstep with ⟨c, rest, -, he⟩ | ⟨c, -, -, he⟩ | ⟨-, -, rfl⟩
  · exact .exec he (h.leaves (.of_eq rfl rfl rfl rfl))
  · exact .exec he h
  · exact h.leaves (.of_eq rfl rfl rfl rfl)

end Sys2Proof.Machine
end

section
/-! SUPPORT. The profile step: the choice of rate, the move and their mirror images (O35). -/

namespace Sys2Proof.Machine

/-! ## The choice of rate (R72 to R74) -/

/-- A rate points toward the target when it has the sign of the error (R73). -/
theorem sign_eq_iff {omega : Int} (h : omega ≠ 0) (e : Int) :
    sign omega = sign e ↔ (0 < omega ∧ 0 < e) ∨ (omega < 0 ∧ e < 0) := by
  unfold sign; omega

section Rate

variable {e omega step : Int} {omegaMax : Nat}

theorem chooseRate_rest (he : e = 0) (ho : omega = 0) : chooseRate e omega step omegaMax = 0 :=
  if_pos ⟨he, ho⟩

theorem chooseRate_away (ho : omega ≠ 0) (ht : sign omega ≠ sign e) :
    chooseRate e omega step omegaMax = decelerate omega step := by
  rw [chooseRate, if_neg (fun h => ho h.2), if_pos ⟨ho, ht⟩]

theorem chooseRate_near (ho : omega ≠ 0) (hs : (e.natAbs : Int) ≤ stoppingDistance omega step) :
    chooseRate e omega step omegaMax = decelerate omega step := by
  rw [chooseRate, if_neg (fun h => ho h.2), if_pos hs, ite_self]

theorem chooseRate_far (he : e ≠ 0) (ht : omega = 0 ∨ sign omega = sign e)
    (hs : stoppingDistance omega step < e.natAbs) :
    chooseRate e omega step omegaMax = accelerate omega step (sign e) omegaMax := by
  rw [chooseRate, if_neg (fun h => he h.1), if_neg (fun h => ht.elim h.1 h.2), if_neg (by omega)]

/-- Within OMEGA_MAX an acceleration raises the rate toward the target (R74). -/
theorem accelerate_sign (he : e ≠ 0) (ho : omega.natAbs ≤ omegaMax) :
    accelerate omega step (sign e) omegaMax
      = if 0 < e then min (omega + step) omegaMax else max (omega - step) (-omegaMax) := by
  rcases Int.lt_or_gt_of_ne he with h | h
  · simp only [sign, accelerate, if_neg (show ¬ 0 < e by omega), if_pos h]
    rw [if_neg (by decide), if_pos (by omega)]
  · simp only [sign, accelerate, if_pos h]
    rw [if_pos (by decide), if_pos (by omega)]

/-- The rate chosen is 0, a deceleration, or, off the target, an acceleration (R73). -/
theorem chooseRate_cases (e omega step : Int) (omegaMax : Nat) :
    chooseRate e omega step omegaMax = 0 ∨ chooseRate e omega step omegaMax = decelerate omega step
      ∨ e ≠ 0 ∧ chooseRate e omega step omegaMax = accelerate omega step (sign e) omegaMax := by
  by_cases ho : omega = 0
  · by_cases he : e = 0
    · exact .inl (chooseRate_rest he ho)
    · exact .inr (.inr ⟨he, chooseRate_far he (.inl ho) (by simp [stoppingDistance, ho]; omega)⟩)
  · by_cases ht : sign omega = sign e
    · by_cases hs : (e.natAbs : Int) ≤ stoppingDistance omega step
      · exact .inr (.inl (chooseRate_near ho hs))
      · have he : e ≠ 0 := by have := (sign_eq_iff ho e).mp ht; omega
        exact .inr (.inr ⟨he, chooseRate_far he (.inr ht) (by omega)⟩)
    · exact .inr (.inl (chooseRate_away ho ht))

/-- The rate chosen is within Δω of the rate before, or it is 0 (R74). -/
theorem chooseRate_change (e : Int) (hstep : 0 ≤ step) (ho : omega.natAbs ≤ omegaMax) :
    ((chooseRate e omega step omegaMax - omega).natAbs : Int) ≤ step ∨ chooseRate e omega step omegaMax = 0 := by
  rcases chooseRate_cases e omega step omegaMax with h | h | ⟨he, h⟩ <;> rw [h]
  · exact .inr rfl
  · unfold decelerate; split <;> (try split) <;> omega
  · rw [accelerate_sign he ho]; split <;> omega

/-! ## The mirror image of a rate (R81) -/

theorem stoppingDistance_neg (omega step : Int) : stoppingDistance (-omega) step = stoppingDistance omega step := by
  rw [stoppingDistance, neg_mul_neg, Int.natAbs_neg]; rfl

theorem decelerate_neg (omega : Int) (hstep : 0 ≤ step) : decelerate (-omega) step = -decelerate omega step := by
  unfold decelerate; omega

theorem chooseRate_neg (e : Int) (hstep : 0 ≤ step) (ho : omega.natAbs ≤ omegaMax) :
    chooseRate (-e) (-omega) step omegaMax = -chooseRate e omega step omegaMax := by
  have haccel (he : e ≠ 0) :
      accelerate (-omega) step (-sign e) omegaMax = -accelerate omega step (sign e) omegaMax := by
    rw [← sign_neg, accelerate_sign (neg_ne_zero.mpr he) (by omega), accelerate_sign he ho]; omega
  simp only [chooseRate, neg_eq_zero, ne_eq, sign_neg, neg_inj, Int.natAbs_neg, stoppingDistance_neg,
    decelerate_neg omega hstep]
  (repeat' split)
  case isFalse.isFalse.isFalse hrest haway _ =>
    refine haccel fun he => haway ?_
    have ho : omega ≠ 0 := fun ho => hrest ⟨he, ho⟩
    exact ⟨ho, fun ht => by have := (sign_eq_iff ho e).mp ht; omega⟩
  all_goals rfl

end Rate

/-! ## The move (R75, R76) -/

section Move

variable {theta omega goal e : Int} {tiltMax : Nat}

theorem arrived_iff (e theta goal : Int) :
    arrived e theta goal = true ↔ (0 < e ∧ goal ≤ theta) ∨ (e < 0 ∧ theta ≤ goal) := by
  unfold arrived; split <;> (try split) <;> simp <;> omega

theorem moveTilt_arrives (h : arrived e (theta + 2 * omega) goal = true) :
    moveTilt theta omega goal e tiltMax = (goal, 0) :=
  if_pos h

theorem moveTilt_above (h : ¬ arrived e (theta + 2 * omega) goal = true)
    (hb : (tiltMax * 100 : Int) < theta + 2 * omega) :
    moveTilt theta omega goal e tiltMax = ((tiltMax * 100 : Int), 0) := by
  rw [moveTilt, if_neg h, if_pos hb]

theorem moveTilt_below (h : ¬ arrived e (theta + 2 * omega) goal = true)
    (hb : theta + 2 * omega < -(tiltMax * 100 : Int)) :
    moveTilt theta omega goal e tiltMax = (-(tiltMax * 100 : Int), 0) := by
  rw [moveTilt, if_neg h, if_neg (by omega), if_pos hb]

theorem moveTilt_within (h : ¬ arrived e (theta + 2 * omega) goal = true)
    (hlo : -(tiltMax * 100 : Int) ≤ theta + 2 * omega) (hhi : theta + 2 * omega ≤ (tiltMax * 100 : Int)) :
    moveTilt theta omega goal e tiltMax = (theta + 2 * omega, omega) := by
  rw [moveTilt, if_neg h, if_neg (by omega), if_neg (by omega)]

/-- A move keeps the rate or ends at rest (R75, R76). -/
theorem moveTilt_rate (theta omega goal e : Int) (tiltMax : Nat) :
    (moveTilt theta omega goal e tiltMax).2 = 0 ∨ (moveTilt theta omega goal e tiltMax).2 = omega := by
  unfold moveTilt
  dsimp only
  (repeat' split) <;> simp

theorem moveTilt_neg (theta omega goal e : Int) (tiltMax : Nat) :
    moveTilt (-theta) (-omega) (-goal) (-e) tiltMax
      = (-(moveTilt theta omega goal e tiltMax).1, -(moveTilt theta omega goal e tiltMax).2) := by
  have hnext : -theta + 2 * -omega = -(theta + 2 * omega) := by ring
  have harrived : arrived (-e) (-theta + 2 * -omega) (-goal) = true ↔ arrived e (theta + 2 * omega) goal = true := by
    rw [arrived_iff, arrived_iff]; omega
  by_cases h : arrived e (theta + 2 * omega) goal = true
  · rw [moveTilt_arrives h, moveTilt_arrives (harrived.mpr h)]; rfl
  · have h' := harrived.not.mpr h
    rcases lt_or_ge (tiltMax * 100 : Int) (theta + 2 * omega) with habove | hhi
    · rw [moveTilt_above h habove, moveTilt_below h' (by omega)]; rfl
    · rcases lt_or_ge (theta + 2 * omega) (-(tiltMax * 100 : Int)) with hbelow | hlo
      · rw [moveTilt_below h hbelow, moveTilt_above h' (by omega), neg_neg]; rfl
      · rw [moveTilt_within h hlo hhi, moveTilt_within h' (by omega) (by omega), hnext]

end Move

/-! ## The step -/

theorem TiltLaw.rateStep_nonneg (law : TiltLaw) : 0 ≤ law.rateStep := Int.natCast_nonneg _

/-- A move and its mirror image are mirrored (R81). -/
theorem profileStep_neg (theta target : Int) {omega : Int} {law : TiltLaw} (tiltMax : Nat)
    (ho : omega.natAbs ≤ law.omegaMax) :
    profileStep (-theta) (-omega) (-target) law tiltMax
      = (-(profileStep theta omega target law tiltMax).1, -(profileStep theta omega target law tiltMax).2) := by
  have he : -target * 100 - -theta = -(target * 100 - theta) := by ring
  simp only [profileStep]
  rw [he, chooseRate_neg _ law.rateStep_nonneg ho, neg_mul, moveTilt_neg]

/-- Settles O35: the rate chosen by the case of Table 4-2, then the move at that rate. -/
theorem profileStepBounded : Obligations.ProfileStepBounded := by
  intro theta omega target law tiltMax htarget homega r goal e step stop bound toward braked raised moves
  have moves_of {rate : Int} (h : chooseRate e omega law.rateStep law.omegaMax = rate) : moves rate := by
    have hr : r = moveTilt theta rate goal e tiltMax := by rw [← h]; rfl
    have harrived := arrived_iff e (theta + 2 * rate) goal
    refine ⟨fun ha => ?_, fun ha => ⟨fun hb => ?_, fun hb => ?_, fun hlo hhi => ?_⟩⟩
    · exact hr.trans (moveTilt_arrives (harrived.mpr ha))
    · exact hr.trans (moveTilt_above (harrived.not.mpr ha) hb)
    · exact hr.trans (moveTilt_below (harrived.not.mpr ha) hb)
    · exact hr.trans (moveTilt_within (harrived.not.mpr ha) hlo hhi)
  obtain ⟨hcommand, hrate⟩ : r.1.natAbs ≤ tiltMax * 100 ∧ r.2.natAbs ≤ law.omegaMax :=
    profileStep_bound theta omega target law tiltMax htarget homega
  refine ⟨fun he ho => ?rest, fun ho ht => ?away, fun ho _ hs => ?near, fun he ht hs => ?far, ?change, hrate, hcommand,
    profileStep_neg theta target tiltMax homega⟩
  case rest =>
    have htheta : theta + 2 * 0 = theta := by omega
    obtain ⟨-, hmove⟩ := moves_of (chooseRate_rest he ho)
    obtain ⟨-, -, hwithin⟩ := hmove (by omega)
    exact (hwithin (by omega) (by omega)).trans (by rw [htheta])
  case away => exact moves_of (chooseRate_away ho ((sign_eq_iff ho e).not.mpr ht))
  case near => exact moves_of (chooseRate_near ho hs)
  case far =>
    have hsign : omega = 0 ∨ sign omega = sign e := by
      by_cases ho : omega = 0
      · exact .inl ho
      · exact .inr ((sign_eq_iff ho e).mpr (ht.resolve_left ho))
    exact moves_of ((chooseRate_far he hsign hs).trans (accelerate_sign he homega))
  case change =>
    have hchange := chooseRate_change e law.rateStep_nonneg homega
    rcases moveTilt_rate theta (chooseRate e omega law.rateStep law.omegaMax) goal e tiltMax with h | h
    · exact .inr h
    · have hstep : law.rateStep = (law.accel / 50 : Nat) := rfl
      have hr : r.2 = chooseRate e omega law.rateStep law.omegaMax := h
      omega

end Sys2Proof.Machine
end

section
/-! SUPPORT. The turns of a poll cycle: its list, the turn that comes first, the end of a transaction; and the expiry of
the poll cycle timer (O43). -/

namespace Sys2Proof.Machine

/-! ## The list of a cycle and its turns (R113 to R115) -/

/-- The cars that are addressed, told by what they are not (R113). -/
theorem CarState.polled_eq (st : CarState) : st.polled = (st != .isolated && st != .offline) := by
  cases st <;> rfl

theorem State.cycleList_eq (s : State) :
    s.cycleList = s.configured.filter (fun i => s.cars[i].state != .isolated && s.cars[i].state != .offline) := by
  simp only [cycleList, CarState.polled_eq]

theorem State.openTurn_cons_of_polled {s : State} {i : CarId} (h : s.cars[i].state.polled = true)
    (cars rest : List CarId) : s.openTurn cars (i :: rest) = some ⟨cars, i, rest, .waiting s.now⟩ := if_pos h

/-- The turn that comes is that of the first polled car (R115). -/
theorem State.openTurn_eq_firstTurn (s : State) (cars toCome : List CarId) :
    s.openTurn cars toCome = s.firstTurn cars toCome := by
  induction toCome with
  | nil => rfl
  | cons i rest ih =>
    by_cases h : s.cars[i].state.polled = true
    · simp [openTurn_cons_of_polled h, firstTurn, List.dropWhile, h, -Fin.getElem_fin]
    · simpa [openTurn, firstTurn, List.dropWhile, h, -Fin.getElem_fin] using ih

/-- A turn that comes waits for an idle line. -/
theorem State.openTurn_waiting {s : State} {cars toCome : List CarId} {c : PollCycle}
    (h : s.openTurn cars toCome = some c) : c.phase = .waiting s.now := by
  induction toCome with
  | nil => cases h
  | cons i rest ih =>
    unfold openTurn at h
    split at h
    · cases h; rfl
    · exact ih h

theorem State.startCycle_eq (s : State) :
    s.startCycle = { s with link := { s.link with cycle := s.firstTurn s.cycleList s.cycleList } } := by
  rw [startCycle, openTurn_eq_firstTurn]

/-- The end of a transaction in the statements' words (R113, R114). -/
theorem State.endTransaction_eq (s : State) (c : PollCycle) :
    s.endTransaction c = { s with link := s.linkAfter c s.link } := by
  unfold endTransaction linkAfter nextCycle
  rw [openTurn_eq_firstTurn]
  cases hturn : s.firstTurn c.cars c.toCome with
  | some next => simp
  | none =>
    cases hpending : s.link.cyclePending with
    | true => rw [if_pos rfl, startCycle_eq]; rfl
    | false => simp [hpending]

/-! ## The poll cycle timer (R113, R114) -/

/-- An instant that is not past is where the time base runs on to. -/
theorem State.runTo_of_le {s : State} {t : Nat} (h : s.now ≤ t) : s.runTo t = { s with now := t } := by
  rw [runTo, Nat.max_eq_right h]

/-- A cycle over the polled cars gives the first of them its turn at once. -/
theorem State.openTurn_cycleList (s : State) :
    s.openTurn s.cycleList s.cycleList = match s.cycleList with
      | [] => none
      | i :: rest => some ⟨s.cycleList, i, rest, .waiting s.now⟩ := by
  cases hl : s.cycleList with
  | nil => rfl
  | cons i rest =>
    have hi : i ∈ s.cycleList := by simp [hl]
    exact openTurn_cons_of_polled (List.mem_filter.mp hi).2 _ _

/-- Settles O43: with no cycle in progress one starts, else the expiry is an overrun. -/
theorem pollCycleStartsOrOverruns : Obligations.PollCycleStartsOrOverruns := by
  intro s hnow e cars
  have hrun : s.runTo (s.link.pollStart + pollPeriod) = { s with now := e } := State.runTo_of_le hnow
  let begun : State := { s with now := e, link := { s.link with pollStart := e } }
  have hlist : begun.cycleList = cars := s.cycleList_eq
  have hexec : exec .pollCycleExpiry s = .next (if s.link.cycle.isNone then begun.startCycle
      else { begun with link := { begun.link with overruns := bump s.link.overruns, cyclePending := true } }) := by
    rw [exec, execPollCycleExpiry, hrun]; rfl
  refine ⟨fun hnone => ?_, fun c hc => ?_⟩
  · rw [hexec, hnone, State.startCycle, begun.openTurn_cycleList, hlist]; rfl
  · rw [hexec, hc]; rfl

end Sys2Proof.Machine
end

section
/-! SUPPORT. What a byte on the actuator link does in each phase of a transaction, and what a run of bytes
makes of it. -/

namespace Sys2Proof.Machine

/-! ## The time base -/

theorem State.after_zero (s : State) : s.after 0 = s := rfl

theorem State.after_after (s : State) (m n : Nat) : (s.after m).after n = s.after (m + n) := by
  simp only [after, Nat.add_assoc]

theorem State.runTo_now_add (s : State) (dt : Nat) : s.runTo (s.now + dt) = s.after dt :=
  runTo_of_le (Nat.le_add_right _ _)

/-! ## The end of a reception by an idle line (R117) -/

/-- No reception is in progress. -/
def State.NotReceiving (s : State) : Prop :=
  ∀ c opened q held, s.link.cycle = some c → c.phase ≠ .receiving opened q held

theorem State.notReceiving_of_cycle {s : State} {c : PollCycle} (hc : s.link.cycle = some c)
    (h : ∀ opened q held, c.phase ≠ .receiving opened q held) : s.NotReceiving := fun c' opened q held hc' => by
  obtain rfl : c = c' := Option.some.inj (hc.symm.trans hc')
  exact h opened q held

theorem State.NotReceiving.endIdle {s : State} (h : s.NotReceiving) (limit : Nat) : s.endIdle limit = s := by
  unfold State.endIdle
  split
  · next c hc =>
    split
    · next hp => exact absurd hp (h c _ _ _ hc)
    · rfl
    · rfl
    · rfl
  · rfl

section Receiving

variable {s : State} {c : PollCycle} {opened : Nat} {q : Byte} {held : List RxByte}

theorem State.endIdle_early (hc : s.link.cycle = some c) (hp : c.phase = .receiving opened q held) {limit : Nat}
    (h : limit < s.link.lineIdleFrom + 20) : s.endIdle limit = s := by
  simp only [endIdle, hc, hp]
  exact if_neg (Nat.not_le.mpr h)

theorem State.endIdle_late (hc : s.link.cycle = some c) (hp : c.phase = .receiving opened q held) {limit : Nat}
    (h : s.link.lineIdleFrom + 20 ≤ limit) :
    s.endIdle limit = (s.runTo (s.link.lineIdleFrom + 20)).finish c (judgeReception c.current q held) := by
  simp only [endIdle, hc, hp]
  exact if_pos h

end Receiving

/-- A transaction that ends leaves no reception in progress: the turn that comes next waits for an idle line. -/
theorem State.finish_notReceiving (s : State) (c : PollCycle) (o : TransactionEnd) : (s.finish c o).NotReceiving := by
  intro next opened q held hnext hp
  have hwaits : ∀ (t : State) cars l, t.openTurn cars l = some next → False := fun t cars l h => by
    rw [t.openTurn_waiting h] at hp; cases hp
  unfold finish endTransaction at hnext
  split at hnext
  · next hturn => exact hwaits _ _ _ (hturn.trans hnext)
  · split at hnext
    · exact hwaits _ _ _ hnext
    · cases hnext

/-! ## One byte (R117, R196) -/

/-- Before a byte that finds no reception ended by the idle line, the time only runs on. -/
theorem State.byteAfter_of_endIdle {s : State} {wait : Nat} (h : s.endIdle (s.now + wait - 10) = s) (b : RxByte) :
    s.byteAfter wait b = (s.after wait).hearByte b := by
  simp only [byteAfter, actuatorByteTime, h, runTo_now_add]

theorem State.NotReceiving.byteAfter {s : State} (h : s.NotReceiving) (wait : Nat) (b : RxByte) :
    s.byteAfter wait b = (s.after wait).hearByte b :=
  State.byteAfter_of_endIdle (h.endIdle _) b

section Byte

variable {s : State} {c : PollCycle} {opened : Nat} {q : Byte}

theorem State.hearByte_window (hc : s.link.cycle = some c) (hp : c.phase = .window opened q)
    (h : s.now ≤ opened + 1000) (b : RxByte) : s.hearByte b = s.holdLine.setPhase c (.receiving opened q [b]) := by
  simp only [hearByte, hc, hp]
  exact if_pos h

theorem State.hearByte_receiving {held : List RxByte} (hc : s.link.cycle = some c)
    (hp : c.phase = .receiving opened q held) (b : RxByte) :
    s.hearByte b = s.holdLine.takeByte c opened q (held ++ [b]) := by
  simp only [hearByte, hc, hp]

theorem State.hearByte_sending {sentAt : Nat} {f : SetpointFrame} (hc : s.link.cycle = some c)
    (hp : c.phase = .sending sentAt f) (b : RxByte) : s.hearByte b = s := by
  simp only [hearByte, hc, hp]

theorem State.takeByte_more (s : State) (c : PollCycle) (opened : Nat) (q : Byte) {held : List RxByte}
    (h : held.length < 10) : s.takeByte c opened q held = s.setPhase c (.receiving opened q held) := if_pos h

theorem State.takeByte_last (s : State) (c : PollCycle) (opened : Nat) (q : Byte) {held : List RxByte}
    (h : 10 ≤ held.length) : s.takeByte c opened q held = s.finish c (judgeReception c.current q held) :=
  if_neg (Nat.not_lt.mpr h)

end Byte

/-- A byte that joins a reception, no 20 µs of idle line before its start bit. -/
theorem State.byteAfter_receiving {s : State} {c : PollCycle} {opened wait : Nat} {q : Byte} {held : List RxByte}
    (hc : s.link.cycle = some c) (hp : c.phase = .receiving opened q held)
    (h : s.now + wait < s.link.lineIdleFrom + 30) (b : RxByte) :
    s.byteAfter wait b = (s.after wait).holdLine.takeByte c opened q (held ++ [b]) := by
  rw [byteAfter_of_endIdle (endIdle_early hc hp (by omega)), hearByte_receiving (s := s.after wait) hc hp]

/-- The first byte of a reception (R117). -/
theorem State.byteAfter_window {s : State} {c : PollCycle} {opened wait : Nat} {q : Byte}
    (hc : s.link.cycle = some c) (hp : c.phase = .window opened q) (h : s.now + wait ≤ opened + 1000) (b : RxByte) :
    s.byteAfter wait b = (s.after wait).holdLine.setPhase c (.receiving opened q [b]) := by
  rw [(notReceiving_of_cycle hc (by rw [hp]; nofun)).byteAfter, hearByte_window (s := s.after wait) hc hp h]

/-! ## Bytes that no window takes (R117) -/

/-- A byte received at `t` or later is discarded and keeps the line busy: no reception is in progress, the master is
not transmitting, and an open window is past its 1,000 µs. -/
def State.Discards (s : State) (t : Nat) : Prop :=
  ∀ c, s.link.cycle = some c → match c.phase with
    | .waiting _ => True
    | .window opened _ => opened + 1000 < t
    | .sending _ _ | .receiving _ _ _ => False

theorem State.Discards.notReceiving {s : State} {t : Nat} (h : s.Discards t) : s.NotReceiving :=
  fun c _ _ _ hc hp => by have hd := h c hc; rw [hp] at hd; exact hd

theorem State.Discards.hearByte {s : State} (h : s.Discards s.now) (b : RxByte) : s.hearByte b = s.holdLine := by
  unfold State.hearByte
  split
  · next c hc =>
    have hd := h c hc
    cases hp : c.phase with
    | waiting turnAt => rfl
    | window opened q => exact if_neg (Nat.not_le.mpr (by rwa [hp] at hd))
    | sending sentAt f => rw [hp] at hd; exact hd.elim
    | receiving opened q held => rw [hp] at hd; exact hd.elim
  · rfl

theorem State.Discards.byteAfter {s : State} {wait : Nat} (h : s.Discards (s.now + wait)) (b : RxByte) :
    s.byteAfter wait b = (s.after wait).holdLine := by
  rw [h.notReceiving.byteAfter]
  exact State.Discards.hearByte (s := s.after wait) h b

theorem State.Discards.later {s : State} {t u : Nat} (h : s.Discards t) (htu : t ≤ u) : s.Discards u := by
  intro c hc
  have hd := h c hc
  split at hd
  · trivial
  · exact Nat.lt_of_lt_of_le hd htu
  · exact hd
  · exact hd

theorem State.Discards.hearRun {s : State} (h : s.Discards s.now) (bytes : List RxByte) :
    s.holdLine.hearRun bytes = (s.after (bytes.map (fun b => b.pause + 10)).sum).holdLine := by
  induction bytes generalizing s with
  | nil => rfl
  | cons b more ih =>
    have hlater : s.Discards (s.now + (b.pause + 10)) := h.later (Nat.le_add_right _ _)
    have hb : s.holdLine.byteAfter (b.pause + 10) b = (s.after (b.pause + 10)).holdLine :=
      State.Discards.byteAfter (s := s.holdLine) hlater b
    calc s.holdLine.hearRun (b :: more) = (s.after (b.pause + 10)).holdLine.hearRun more := by rw [← hb]; rfl
      _ = ((s.after (b.pause + 10)).after (more.map (fun b => b.pause + 10)).sum).holdLine :=
        ih (s := s.after (b.pause + 10)) hlater
      _ = _ := by rw [State.after_after, List.map_cons, List.sum_cons]

/-! ## Bytes while the master transmits (R117) -/

theorem State.byteAfter_sending {s : State} {c : PollCycle} {sentAt : Nat} {f : SetpointFrame}
    (hc : s.link.cycle = some c) (hp : c.phase = .sending sentAt f) (wait : Nat) (b : RxByte) :
    s.byteAfter wait b = s.after wait := by
  rw [(notReceiving_of_cycle hc (by rw [hp]; nofun)).byteAfter, hearByte_sending (s := s.after wait) hc hp]

theorem State.hearRun_sending {s : State} {c : PollCycle} {sentAt : Nat} {f : SetpointFrame}
    (hc : s.link.cycle = some c) (hp : c.phase = .sending sentAt f) (bytes : List RxByte) :
    s.hearRun bytes = s.after (bytes.map (fun b => b.pause + 10)).sum := by
  induction bytes generalizing s with
  | nil => rfl
  | cons b more ih =>
    rw [hearRun, byteAfter_sending hc hp, ih (s := s.after _) hc, after_after, List.map_cons, List.sum_cons]
    rfl

end Sys2Proof.Machine
end

section
/-! SUPPORT. The setpoint of a turn: what it is composed from, when it is sent, and the window that opens after it
(O44). -/

namespace Sys2Proof.Machine

/-! ## The setpoint (R115, R116) -/

/-- TRACK in the words of Table 6-2. -/
theorem State.commandTrack_eq (s : State) (i : CarId) :
    s.commandTrack i = (s.unit.mode != .config && (s.cars[i].state == .tracking || s.cars[i].state == .returning
      || s.cars[i].state == .centred)) := by
  unfold commandTrack
  congr 1
  cases s.cars[i].state <;> rfl

/-- The instant of the setpoint, with the line busy for a part of the turn. -/
theorem setpointInstant_busy (turnAt lineIdleFrom busy : Nat) :
    setpointInstant turnAt (max lineIdleFrom (turnAt + busy)) = max (turnAt + busy) lineIdleFrom + 20 := by
  unfold setpointInstant lineIdleTime
  omega

theorem lineIdleInTime_iff (turnAt lineIdleFrom : Nat) :
    lineIdleInTime turnAt lineIdleFrom = true ↔ setpointInstant turnAt lineIdleFrom ≤ turnAt + 4000 :=
  decide_eq_true_iff

section Waiting

variable {s : State} {c : PollCycle} {turnAt busy : Nat}

theorem exec_setpointSend_late (hc : s.link.cycle = some c) (hp : c.phase = .waiting turnAt)
    (h : turnAt + 4000 < max (turnAt + busy) s.link.lineIdleFrom + 20) : exec (.setpointSend busy) s = .next s := by
  rw [← setpointInstant_busy] at h
  have hlate := (lineIdleInTime_iff _ _).not.mpr (Nat.not_le.mpr h)
  simp only [exec, execSetpointSend, hc, hp, if_neg hlate]

theorem exec_setpointSend_inTime (hc : s.link.cycle = some c) (hp : c.phase = .waiting turnAt) {sendAt : Nat}
    (hat : max (turnAt + busy) s.link.lineIdleFrom + 20 = sendAt) (h : sendAt ≤ turnAt + 4000) (hnow : s.now ≤ sendAt) :
    exec (.setpointSend busy) s = .next ((State.setDrive { s with now := sendAt } c.current
      { s.link.drives[c.current] with sequence := s.link.drives[c.current].sequence + 1 }).setPhase c
        (.sending sendAt (s.composeSetpoint c.current))) := by
  rw [← setpointInstant_busy] at hat
  have hintime := (lineIdleInTime_iff _ _).mpr (hat.trans_le h)
  simp only [exec, execSetpointSend, hc, hp, if_pos hintime, hat, State.runTo_of_le hnow]
  rfl

/-- The limit of a turn whose line is idle in time changes nothing (log 4). -/
theorem exec_turnWaitLimit_inTime (hc : s.link.cycle = some c) (hp : c.phase = .waiting turnAt)
    (h : max turnAt s.link.lineIdleFrom + 20 ≤ turnAt + 4000) : exec .turnWaitLimit s = .next s := by
  have hintime := (lineIdleInTime_iff turnAt s.link.lineIdleFrom).mpr h
  simp only [exec, execTurnWaitLimit, hc, hp, if_pos hintime]

end Waiting

/-- At the last bit of the setpoint the reply window opens (R117). -/
theorem exec_setpointSent {s : State} {c : PollCycle} {sentAt : Nat} {f : SetpointFrame}
    (hc : s.link.cycle = some c) (hp : c.phase = .sending sentAt f) (hnow : s.now ≤ sentAt + 90) :
    exec .setpointSent s
      = .next (State.setPhase { s with now := sentAt + 90 } c (.window (sentAt + 90) f.sequence)) := by
  have hrun : s.runTo (sentAt + setpointTime) = { s with now := sentAt + 90 } := State.runTo_of_le hnow
  simp only [exec, execSetpointSent, hc, hp, hrun]

/-! ## Commands outside their phase (log 4) -/

section OutsidePhase

variable {s : State}

theorem exec_setpointSend_outside (h : ∀ c turnAt, s.link.cycle = some c → c.phase ≠ .waiting turnAt) (busy : Nat) :
    exec (.setpointSend busy) s = .next s := by
  simp only [exec, execSetpointSend]
  split
  · next c hc =>
    split
    · next hp => exact absurd hp (h c _ hc)
    all_goals rfl
  · rfl

theorem exec_turnWaitLimit_outside (h : ∀ c turnAt, s.link.cycle = some c → c.phase ≠ .waiting turnAt) :
    exec .turnWaitLimit s = .next s := by
  simp only [exec, execTurnWaitLimit]
  split
  · next c hc =>
    split
    · next hp => exact absurd hp (h c _ hc)
    all_goals rfl
  · rfl

theorem exec_setpointSent_outside (h : ∀ c sentAt f, s.link.cycle = some c → c.phase ≠ .sending sentAt f) :
    exec .setpointSent s = .next s := by
  simp only [exec, execSetpointSent]
  split
  · next c hc =>
    split
    · next hp => exact absurd hp (h c _ _ hc)
    all_goals rfl
  · rfl

theorem exec_replyWindowClose_outside (hwindow : ∀ c opened q, s.link.cycle = some c → c.phase ≠ .window opened q)
    (hreceiving : s.NotReceiving) : exec .replyWindowClose s = .next s := by
  simp only [exec, execReplyWindowClose]
  split
  · next c hc =>
    split
    · next hp => exact absurd hp (hwindow c _ _ hc)
    · next hp => exact absurd hp (hreceiving c _ _ _ hc)
    all_goals rfl
  · rfl

end OutsidePhase

/-! ## Bytes that no window takes -/

/-- Bytes are discarded when no reply is awaited at the first of them. -/
theorem State.discards_of_phases {s : State} {t : Nat}
    (hsending : ∀ c sentAt f, s.link.cycle = some c → c.phase ≠ .sending sentAt f) (hreceiving : s.NotReceiving)
    (hwindow : ∀ c opened q, s.link.cycle = some c → c.phase = .window opened q → opened + 1000 < t) :
    s.Discards t := by
  intro c hc
  split
  · trivial
  · next hp => exact hwindow c _ _ hc hp
  · next hp => exact hsending c _ _ hc hp
  · next hp => exact hreceiving c _ _ _ hc hp

theorem exec_statusReception_cons (dt : Nat) (first : RxByte) (more : List RxByte) (s : State) :
    exec (.statusReception dt (first :: more)) s = .next ((s.byteAfter dt first).hearRun more) := rfl

/-- Settles O44, phase by phase. -/
theorem setpointComposedAndSent : Obligations.SetpointComposedAndSent := by
  refine ⟨fun turnAt busy c s hc hp => ⟨exec_turnWaitLimit_inTime hc hp, exec_setpointSend_late hc hp, ?compose⟩,
    fun sentAt f c s hc hp hnow => exec_setpointSent hc hp hnow,
    fun s => ⟨fun h => ⟨exec_setpointSend_outside h, exec_turnWaitLimit_outside h⟩, exec_setpointSent_outside,
      exec_replyWindowClose_outside⟩,
    fun dt first more s => ⟨?discarded, ?transmitting⟩⟩
  case compose =>
    intro h hnow i sequence track
    rw [exec_setpointSend_inTime hc hp rfl h hnow, State.composeSetpoint, State.commandTrack_eq]
    rfl
  case discarded =>
    intro hsending hreceiving hwindow
    have hdiscards : s.Discards (s.now + dt) := State.discards_of_phases hsending hreceiving hwindow
    rw [exec_statusReception_cons, hdiscards.byteAfter, State.Discards.hearRun (s := s.after dt) hdiscards]
    rfl
  case transmitting =>
    intro c sentAt f hc hp
    rw [exec_statusReception_cons, State.byteAfter_sending hc hp, State.hearRun_sending (s := s.after dt) hc hp]
    rfl

end Sys2Proof.Machine
end

section
/-! SUPPORT. A reception byte by byte, and when it is good (O46). -/

namespace Sys2Proof.Machine

/-! ## A reception judged (R117, R118) -/

/-- A reception of any length but that of a STATUS frame is not good. -/
theorem judgeFields_of_length (i : CarId) (q : Byte) {values : List Byte} (h : values.length ≠ 10) :
    judgeFields i q values = .corrupt := by
  unfold judgeFields
  split
  · exact absurd rfl h
  · rfl

theorem judgeReception_framing (i : CarId) (q : Byte) {bytes : List RxByte}
    (h : bytes.any RxByte.framingError = true) : judgeReception i q bytes = .corrupt := if_pos h

theorem judgeReception_clean (i : CarId) (q : Byte) {bytes : List RxByte}
    (h : ∀ b ∈ bytes, b.framingError = false) :
    judgeReception i q bytes = judgeFields i q (bytes.map RxByte.value) :=
  if_neg (by simpa using h)

theorem judgeReception_short (i : CarId) (q : Byte) {bytes : List RxByte} (h : bytes.length < 10) :
    judgeReception i q bytes = .corrupt := by
  unfold judgeReception
  split
  · rfl
  · exact judgeFields_of_length i q (by rw [List.length_map]; omega)

theorem judgeReception_ne_miss (i : CarId) (q : Byte) (bytes : List RxByte) : judgeReception i q bytes ≠ .miss := by
  unfold judgeReception judgeFields
  (repeat' split) <;> nofun

/-- A car's index as a STATUS frame carries it. -/
theorem carByte_iff (i : CarId) (address : Byte) : address.toNat = i.val ↔ address = BitVec.ofNat 8 i.val := by
  have hi : (BitVec.ofNat 8 i.val).toNat = i.val := by
    rw [BitVec.toNat_ofNat]; omega
  rw [← BitVec.toNat_inj, hi]

/-- The ten fields of a good STATUS frame, and what it yields (R118). -/
theorem judgeFields_good_iff (i : CarId) (q state : Byte) (report : DriveReport) (values : List Byte) :
    judgeFields i q values = .good state report ↔ ∃ t₁ t₀ l₁ l₀ code c₁ c₀ : Byte,
      values = [BitVec.ofNat 8 i.val, q, state, t₁, t₀, l₁, l₀, code, c₁, c₀]
      ∧ c₁ ++ c₀ = crc16 [BitVec.ofNat 8 i.val, q, state, t₁, t₀, l₁, l₀, code]
      ∧ state.toNat ≤ 2 ∧ code.toNat ≤ 15
      ∧ report.tilt = (t₁ ++ t₀).toInt
      ∧ report.lateral = max (-9999) (min 9999 (l₁ ++ l₀).toInt)
      ∧ report.faultCode = code.toNat := by
  constructor
  · intro h
    unfold judgeFields at h
    split at h
    · next address echo st t₁ t₀ l₁ l₀ code c₁ c₀ =>
      split at h
      · next hgood =>
        obtain ⟨haddress, rfl, hstate, hcode, hcrc⟩ := hgood
        rw [carByte_iff] at haddress
        subst haddress
        cases h
        exact ⟨t₁, t₀, l₁, l₀, code, c₁, c₀, rfl, hcrc, hstate, hcode, rfl, rfl, rfl⟩
      · cases h
    · cases h
  · rintro ⟨t₁, t₀, l₁, l₀, code, c₁, c₀, rfl, hcrc, hstate, hcode, htilt, hlateral, hfault⟩
    have hreport : report = ⟨(join16 t₁ t₀).toInt, hold (-9999) 9999 (join16 l₁ l₀).toInt, code.toNat⟩ := by
      cases report; cases htilt; cases hlateral; cases hfault; rfl
    rw [hreport]
    exact if_pos ⟨(carByte_iff i _).mpr rfl, rfl, hstate, hcode, hcrc⟩

/-! ## A reception byte by byte (R117, R196) -/

theorem exec_statusReception_nil (dt : Nat) (s : State) :
    exec (.statusReception dt []) s = .next ((s.after dt).endReception) := rfl

section Reception

variable {s : State} {c : PollCycle} {opened : Nat} {q : Byte} {held : List RxByte}

/-- A reception in progress runs on past the window's close (R117). -/
theorem exec_replyWindowClose_receiving (hc : s.link.cycle = some c) (hp : c.phase = .receiving opened q held) :
    exec .replyWindowClose s = .next (s.runTo (opened + 1000)) := by
  simp only [exec, execReplyWindowClose, hc, hp]
  rfl

/-- The line idle for 20 µs ends a reception in progress (R117). -/
theorem State.endReception_receiving (hc : s.link.cycle = some c) (hp : c.phase = .receiving opened q held) :
    s.endReception = (s.runTo (s.link.lineIdleFrom + 20)).finish c (judgeReception c.current q held) :=
  endIdle_late hc hp le_rfl

/-- A byte that comes later than 20 µs of idle line finds the reception ended by it (R117, R196). -/
theorem State.byteAfter_endReception (hc : s.link.cycle = some c) (hp : c.phase = .receiving opened q held) {dt : Nat}
    (h : s.link.lineIdleFrom + 30 ≤ s.now + dt) (b : RxByte) :
    s.byteAfter dt b = s.endReception.byteAfter (s.now + dt - s.endReception.now) b := by
  have hended := endReception_receiving hc hp
  have hnow : s.endReception.now = max s.now (s.link.lineIdleFrom + 20) := by rw [hended]; simp
  have hnot : s.endReception.NotReceiving := hended ▸ finish_notReceiving _ _ _
  have hstop : s.endReception.now + (s.now + dt - s.endReception.now) = s.now + dt := by omega
  have hlate : s.endIdle (s.now + dt - actuatorByteTime) = s.endReception := by
    rw [hended]; exact endIdle_late hc hp (Nat.le_sub_of_add_le h)
  simp only [byteAfter, hstop, hnot.endIdle, hlate]

end Reception

/-- A run of bytes cut before any byte but its first (R117). -/
theorem exec_statusReception_append {dt : Nat} {before : List RxByte} {s t : State} (hbefore : before ≠ [])
    (h : exec (.statusReception dt before) s = .next t) (b : RxByte) (after : List RxByte) :
    exec (.statusReception dt (before ++ b :: after)) s = exec (.statusReception (b.pause + 10) (b :: after)) t := by
  obtain ⟨first, more, rfl⟩ := List.exists_cons_of_ne_nil hbefore
  rw [exec_statusReception_cons] at h
  obtain rfl : (s.byteAfter dt first).hearRun more = t := by injection h
  rw [List.cons_append, exec_statusReception_cons, exec_statusReception_cons, State.hearRun_append]
  rfl

/-- Settles O46: each byte, the runs, and the judgement. -/
theorem receptionGoodExactly : Obligations.ReceptionGoodExactly := by
  refine ⟨fun dt opened q held b c s hc => ⟨fun hp h => ?first, fun hp hlength h => ?joins, fun hp => ?close,
      fun hp h t ht => ?ended⟩,
    fun dt b before after s t hbefore ht => exec_statusReception_append hbefore ht b after,
    fun dt s h => ?idle,
    fun i q state report bytes => ⟨?good, judgeReception_ne_miss i q bytes, judgeReception_short i q⟩⟩
  case first => rw [exec_statusReception_cons, State.byteAfter_window hc hp h]; rfl
  case joins =>
    have hmore : (held ++ [b]).length < 10 := by rw [List.length_append, List.length_singleton]; omega
    rw [exec_statusReception_cons, State.byteAfter_receiving hc hp h, State.takeByte_more _ _ _ _ hmore]
    rfl
  case close => rw [exec_replyWindowClose_receiving hc hp]; rfl
  case ended =>
    rw [exec_statusReception_nil, State.after_zero] at ht
    obtain rfl : s.endReception = t := by injection ht
    rw [exec_statusReception_cons, exec_statusReception_cons, State.byteAfter_endReception hc hp h b]
  case idle =>
    rw [exec_statusReception_nil, State.endReception, State.NotReceiving.endIdle (s := s.after dt) h]
    rfl
  case good =>
    by_cases hclean : ∀ b ∈ bytes, b.framingError = false
    · rw [judgeReception_clean i q hclean, judgeFields_good_iff]
      simp only [eq_true hclean, true_and]
    · rw [judgeReception_framing i q (by simpa using hclean)]
      exact ⟨nofun, fun ⟨_, _, _, _, _, _, _, _, h, _⟩ => absurd h hclean⟩

end Sys2Proof.Machine
end

section
/-! SUPPORT. The outcome of a transaction does not read the poll cycle in progress: it is the same whatever cycle the
master holds. -/

namespace Sys2Proof.Machine

/-- The state with another cycle in progress. -/
def State.withCycle (s : State) (c : Option PollCycle) : State := { s with link := { s.link with cycle := c } }

variable (x : Option PollCycle)

theorem State.ite_withCycle (p : Prop) [Decidable p] (s t : State) :
    (if p then s.withCycle x else t.withCycle x) = (if p then s else t).withCycle x :=
  (apply_ite (State.withCycle · x) p s t).symm

/-! ## Notices and changes of state -/

theorem State.chooseFrame_withCycle (s : State) : (s.withCycle x).chooseFrame = s.chooseFrame.withCycle x := by
  have hctl : (s.withCycle x).ctl = s.ctl := rfl
  unfold chooseFrame
  rw [hctl]
  cases s.ctl.transmitter with
  | idle => simp only [← ite_withCycle]; rfl
  | sendingReply t => rfl
  | sendingBatch t => rfl

theorem State.formationTest_withCycle (s : State) : (s.withCycle x).formationTest = s.formationTest.withCycle x := by
  have hform : (s.withCycle x).formBatch = s.formBatch.withCycle x := rfl
  unfold formationTest
  rw [hform, chooseFrame_withCycle]
  exact ite_withCycle x _ _ _

theorem State.postNotice_withCycle (s : State) (n : Notice) :
    (s.withCycle x).postNotice n = (s.postNotice n).withCycle x := by
  have hjoin : (s.withCycle x).joinNotice n = (s.joinNotice n).withCycle x := rfl
  unfold postNotice
  rw [hjoin, formationTest_withCycle]
  exact ite_withCycle x (s.ctl.notices.length < 32) _ { s with ctl := { s.ctl with lost := bump s.ctl.lost } }

theorem State.post_withCycle (s : State) (kind : NoticeKind) (car : Option CarId) (a b : BitVec 16) :
    (s.withCycle x).post kind car a b = (s.post kind car a b).withCycle x :=
  s.postNotice_withCycle x _

theorem State.settle_withCycle (s : State) : (s.withCycle x).settle = s.settle.withCycle x := by
  have hmode : (s.withCycle x).changeMode .config = (s.changeMode .config).withCycle x :=
    State.post_withCycle x { s with unit := { s.unit with mode := .config } } _ _ _ _
  unfold settle
  rw [hmode]
  exact ite_withCycle x _ _ _

theorem State.enter_withCycle (s : State) (i : CarId) (st : CarState) (cause : CarCause) :
    (s.withCycle x).enter i st cause = (s.enter i st cause).withCycle x :=
  post_withCycle x (s.setCar i { s.cars[i] with state := st, target := 0, reason := .forcedZero }) _ _ _ _

theorem State.transition_withCycle (s : State) (i : CarId) (st : CarState) (cause : CarCause) :
    (s.withCycle x).transition i st cause = (s.transition i st cause).withCycle x := by
  rw [transition, enter_withCycle, settle_withCycle, transition]

/-! ## Causes -/

theorem State.centreCar_withCycle (s : State) (cause : CarCause) (i : CarId) :
    (s.withCycle x).centreCar cause i = (s.centreCar cause i).withCycle x := by
  unfold centreCar
  rw [transition_withCycle]
  exact ite_withCycle x _ _ _

theorem State.centreAll_withCycle (s : State) (cause : CarCause) :
    (s.withCycle x).centreAll cause = (s.centreAll cause).withCycle x := by
  unfold centreAll
  induction allCars generalizing s with
  | nil => rfl
  | cons i rest ih => rw [List.foldl_cons, List.foldl_cons, centreCar_withCycle, ih]

theorem State.carCause_withCycle (s : State) (i : CarId) (cause : LatchReason) (reaction : Reaction) :
    (s.withCycle x).carCause i cause reaction = (s.carCause i cause reaction).withCycle x := by
  have hstate : (s.withCycle x).cars[i].state = s.cars[i].state := rfl
  have hlatched : ∀ st, ((s.withCycle x).setLatch i (some cause)).transition i st cause.carCause
      = ((s.setLatch i (some cause)).transition i st cause.carCause).withCycle x := fun st =>
    transition_withCycle x (s.setLatch i (some cause)) i st cause.carCause
  unfold carCause
  rw [hstate]
  cases s.cars[i].state with
  | tracking =>
    cases reaction with
    | centreAndLatch => exact hlatched .returning
    | centreAndContinue => exact s.transition_withCycle x i .returning cause.carCause
  | centred =>
    cases reaction with
    | centreAndLatch => exact hlatched .latched
    | centreAndContinue => rfl
  | returning => cases reaction <;> rfl
  | latched => cases reaction <;> rfl
  | offline => rfl
  | isolated => rfl
  | probing => rfl

/-! ## The Supervisor -/

theorem State.raiseDoubt_withCycle (s : State) (i j : CarId) (d : Int) :
    (s.withCycle x).raiseDoubt i j d = (s.raiseDoubt i j d).withCycle x := by
  have hpost : ∀ a b,
      State.post { s.withCycle x with route := { s.route with doubt := true } } .routeDoubt (some i) a b
      = (State.post { s with route := { s.route with doubt := true } } .routeDoubt (some i) a b).withCycle x :=
    State.post_withCycle x { s with route := { s.route with doubt := true } } _ _
  have hroute : (s.withCycle x).route = s.route := rfl
  unfold raiseDoubt
  simp only [hroute, hpost, centreAll_withCycle]
  exact ite_withCycle x _ _ _

theorem State.consult_withCycle (s : State) (i : CarId) (p : Nat) :
    (s.withCycle x).consult i p = (s.consult i p).withCycle x := by
  have hmatch : (s.withCycle x).matching i p = s.matching i p := rfl
  unfold consult
  rw [hmatch]
  cases s.matching i p with
  | some m => exact s.raiseDoubt_withCycle x i m.car _
  | none =>
    exact ite_withCycle x _ s { s with sup := { s.sup with mismatches := insertMismatch s.sup.mismatches ⟨p, i⟩ } }

theorem State.confirmMismatch_withCycle (s : State) (i : CarId) (p : Nat) (residual predicted : Int) :
    (s.withCycle x).confirmMismatch i p residual predicted
      = (s.confirmMismatch i p residual predicted).withCycle x := by
  have hmarked : ((s.withCycle x).setPersistence i 0).setSuspended i true
      = ((s.setPersistence i 0).setSuspended i true).withCycle x := rfl
  unfold confirmMismatch
  simp only [hmarked, carCause_withCycle, post_withCycle, consult_withCycle]
  rfl

theorem State.testResidual_withCycle (s : State) (i : CarId) (p : Nat) (residual predicted : Int) :
    (s.withCycle x).testResidual i p residual predicted = (s.testResidual i p residual predicted).withCycle x := by
  have hcount : ∀ n, (s.withCycle x).setPersistence i n = (s.setPersistence i n).withCycle x := fun n => rfl
  unfold testResidual
  simp only [hcount, confirmMismatch_withCycle, ite_withCycle]
  rfl

theorem State.superviseReply_withCycle (s : State) (i : CarId) (r : DriveReport) :
    (s.withCycle x).superviseReply i r = (s.superviseReply i r).withCycle x := by
  have hjudged : (s.withCycle x).judgedSegment i = s.judgedSegment i := rfl
  unfold superviseReply
  rw [hjudged]
  cases s.judgedSegment i with
  | none => exact ite_withCycle x _ (s.setPersistence i 0) (s.setPersistence i 0)
  | some g =>
    simp only [testResidual_withCycle]
    exact ite_withCycle x _ _ (s.setPersistence i 0)

/-! ## The outcome of a transaction (R119) -/

theorem State.followFault_withCycle (s : State) (i : CarId) (st : Byte) (code previous : Nat) :
    (s.withCycle x).followFault i st code previous = (s.followFault i st code previous).withCycle x := by
  have hset : ∀ b, (s.withCycle x).setDriveFault i b = (s.setDriveFault i b).withCycle x := fun b => rfl
  have hcars : (s.withCycle x).cars = s.cars := rfl
  unfold followFault
  simp only [hset, hcars, carCause_withCycle, post_withCycle, ite_withCycle]
  rfl

theorem State.countProbe_withCycle (s : State) (i : CarId) (st : Byte) (tilt : Int) :
    (s.withCycle x).countProbe i st tilt = (s.countProbe i st tilt).withCycle x := by
  have hset : ∀ d, (s.withCycle x).setDrive i d = (s.setDrive i d).withCycle x := fun d => rfl
  unfold countProbe
  simp only [hset, transition_withCycle, ite_withCycle]
  rfl

theorem State.applyGood_withCycle (s : State) (i : CarId) (st : Byte) (r : DriveReport) :
    (s.withCycle x).applyGood i st r = (s.applyGood i st r).withCycle x := by
  have hkept : ((s.withCycle x).healReply i).setDrive i
      { ((s.withCycle x).healReply i).link.drives[i] with lastGood := some r }
      = ((s.healReply i).setDrive i { (s.healReply i).link.drives[i] with lastGood := some r }).withCycle x := rfl
  unfold applyGood
  simp only [hkept, followFault_withCycle, superviseReply_withCycle, ite_withCycle, countProbe_withCycle]
  rfl

theorem State.isolate_withCycle (s : State) (i : CarId) (corrupt : Bool) :
    (s.withCycle x).isolate i corrupt = (s.isolate i corrupt).withCycle x := by
  unfold isolate postIsolated
  rw [← settle_withCycle, ← post_withCycle, ← enter_withCycle]
  rfl

theorem State.failReply_withCycle (s : State) (i : CarId) (corrupt : Bool) :
    (s.withCycle x).failReply i corrupt = (s.failReply i corrupt).withCycle x := by
  have hset : ∀ n w, (s.withCycle x).setHealth i n w = (s.setHealth i n w).withCycle x := fun n w => rfl
  unfold failReply
  simp only [hset, isolate_withCycle, post_withCycle, ite_withCycle]
  rfl

theorem State.failProbe_withCycle (s : State) (i : CarId) (corrupt : Bool) :
    (s.withCycle x).failProbe i corrupt = (s.failProbe i corrupt).withCycle x := by
  unfold failProbe postIsolated
  rw [← settle_withCycle, ← post_withCycle, ← enter_withCycle]
  rfl

theorem State.applyOutcome_withCycle (s : State) (i : CarId) (o : TransactionEnd) :
    (s.withCycle x).applyOutcome i o = (s.applyOutcome i o).withCycle x := by
  have hcars : (s.withCycle x).cars = s.cars := rfl
  unfold applyOutcome
  cases o <;> simp only [hcars, applyGood_withCycle, failProbe_withCycle, failReply_withCycle, ite_withCycle]

/-- The end of a transaction reads of the cycle in progress its list and the cars to come. -/
theorem State.finish_withCycle (s : State) (c : PollCycle) (p : Phase) (o : TransactionEnd) :
    (s.withCycle x).finish { c with phase := p } o = s.finish c o := by
  unfold finish
  rw [applyOutcome_withCycle, endTransaction_eq, endTransaction_eq]
  rfl

end Sys2Proof.Machine
end

section
/-! SUPPORT. The end of a reception, and what a good reply makes of its car (O47). -/

namespace Sys2Proof.Machine

/-! ## The end of a reception (R117, R119) -/

/-- Of the bytes on the line only the last one counts for the idle tests. -/
theorem State.holdLine_after (s : State) (n : Nat) : (s.holdLine.after n).holdLine = (s.after n).holdLine := rfl

theorem State.setPhase_after_holdLine (s : State) (c : PollCycle) (p : Phase) (n : Nat) :
    ((s.setPhase c p).after n).holdLine = ((s.after n).holdLine).withCycle (some { c with phase := p }) := rfl

/-- The bytes that complete a reception, none after 20 µs of idle line, end it at the last of them. -/
theorem State.hearRun_receiving {s : State} {c : PollCycle} {opened : Nat} {q : Byte} {held : List RxByte}
    (hc : s.link.cycle = some c) (hp : c.phase = .receiving opened q held) (hline : s.link.lineIdleFrom = s.now)
    {more : List RxByte} (hpause : ∀ b ∈ more, b.pause < 20) (hheld : held.length < 10)
    (hlength : held.length + more.length = 10) :
    s.hearRun more = ((s.after (more.map (fun b => b.pause + 10)).sum).holdLine).finish c
      (judgeReception c.current q (held ++ more)) := by
  induction more generalizing s c held with
  | nil => simp at hlength; omega
  | cons b more ih =>
    obtain ⟨hb, hmore⟩ := List.forall_mem_cons.mp hpause
    have hjoined : (held ++ [b]).length = held.length + 1 := List.length_append
    rw [List.length_cons] at hlength
    rw [hearRun, byteAfter_receiving hc hp (by rw [hline, actuatorByteTime]; omega)]
    by_cases hlast : held.length = 9
    · obtain rfl : more = [] := List.eq_nil_of_length_eq_zero (by omega)
      rw [takeByte_last _ _ _ _ (by omega)]
      rfl
    · rw [takeByte_more _ _ _ _ (by omega),
        ih (c := { c with phase := .receiving opened q (held ++ [b]) }) rfl rfl rfl hmore (by omega) (by omega),
        List.append_assoc, setPhase_after_holdLine, finish_withCycle, holdLine_after, after_after]
      rfl

/-- However a reception ends, its bytes are judged, its outcome is applied, and the next turn comes (R117 to R119). -/
theorem exec_of_receptionEnds {s : State} {c : PollCycle} {cmd : Instr} {q : Byte} {received : List RxByte}
    {ends idleFrom : Nat} (hc : s.link.cycle = some c) (h : s.ReceptionEnds c cmd q received ends idleFrom) :
    exec cmd s = .next (State.finish { s with now := ends, link := { s.link with lineIdleFrom := idleFrom } } c
      (judgeReception c.current q received)) := by
  obtain ⟨dt, opened, ⟨held, b, hp, rfl, hheld, htime, rfl, rfl, rfl⟩ | ⟨hp, rfl, rfl, htime, rfl⟩
    | ⟨first, more, hp, rfl, htime, hlength, hpause, rfl, rfl, rfl⟩⟩ := h
  case inl =>
    have hfull : 10 ≤ (held ++ [b]).length := by rw [List.length_append, List.length_singleton]; omega
    rw [exec_statusReception_cons, State.byteAfter_receiving hc hp htime, State.takeByte_last _ _ _ _ hfull]
    rfl
  case inr.inl =>
    have hrun : (s.after dt).runTo ((s.after dt).link.lineIdleFrom + 20)
        = { s.after dt with now := s.link.lineIdleFrom + 20 } := State.runTo_of_le htime
    rw [exec_statusReception_nil, State.endReception_receiving (s := s.after dt) hc hp, hrun]
    rfl
  case inr.inr =>
    rw [exec_statusReception_cons, State.byteAfter_window hc hp htime,
      State.hearRun_receiving (c := { c with phase := .receiving opened q [first] }) rfl rfl rfl hpause
        (by simp) (by simp; omega),
      State.setPhase_after_holdLine, State.finish_withCycle, State.holdLine_after]
    rfl

/-! ## A good reply (R119 to R125) -/

/-- An OFFLINE or ISOLATED car takes nothing of an outcome (R119). -/
theorem State.applyOutcome_unpolled {s : State} {i : CarId} (h : s.cars[i].state.polled = false)
    (o : TransactionEnd) : s.applyOutcome i o = s := if_neg (by rw [h]; nofun)

theorem State.applyOutcome_good {s : State} {i : CarId} (h : s.cars[i].state.polled = true) (state : Byte)
    (r : DriveReport) : s.applyOutcome i (.good state r) = s.applyGood i state r := if_pos h

/-- The counter and the last good reply of a car that is heard (R120, R121, R125). -/
theorem State.healReply_stored (s : State) (i : CarId) (r : DriveReport) :
    (s.healReply i).setDrive i { (s.healReply i).link.drives[i] with lastGood := some r }
      = { s with
          cars := s.cars.set i { s.cars[i] with healthReduce := decide (80 ≤ s.link.drives[i].health - 1) }
          link := { s.link with drives := s.link.drives.set i { s.link.drives[i] with
            health := s.link.drives[i].health - 1
            warned := s.link.drives[i].warned && s.link.drives[i].health - 1 != 0
            lastGood := some r } } } := by
  rw [healReply, setHealth_get, if_pos rfl]
  simp [setDrive, setHealth]

/-- A good reply of a car that is not PROBING: DRIVE_FAULT, then the Supervisor but for a FAULT reply
(R124, R131). -/
theorem State.applyGood_inService {s heard : State} {i : CarId} {r : DriveReport} (h : s.cars[i].state ≠ .probing)
    (hheard : (s.healReply i).setDrive i { (s.healReply i).link.drives[i] with lastGood := some r } = heard)
    (state : Byte) :
    s.applyGood i state r =
      if state = 2 then heard.followFault i state r.faultCode s.link.drives[i].lastCode
      else (heard.followFault i state r.faultCode s.link.drives[i].lastCode).superviseReply i r := by
  have hprobing : (s.cars[i].state == .probing) = false := by simpa [-Fin.getElem_fin] using h
  simp only [applyGood, hprobing, driveFaultCode, hheard]
  by_cases hstate : state = 2 <;> simp [hstate]

/-- Settles O47: the reception ends, its outcome is applied to the car as it stands, and the next turn comes. -/
theorem goodReplyApplied : Obligations.GoodReplyApplied := by
  intro cmd ends idleFrom received q state report c s hc hends hgood i ended done r d h previous heard followed
  have hheard : (ended.healReply i).setDrive i { (ended.healReply i).link.drives[i] with lastGood := some report }
      = heard := ended.healReply_stored i report
  refine ⟨?_, fun hpolled => ?_, fun hpolled hprobing => ?_⟩
  · rw [exec_of_receptionEnds hc hends, hgood, State.finish, State.endTransaction_eq]
  · exact State.applyOutcome_unpolled (s := ended) hpolled _
  · calc done = ended.applyGood i state report := State.applyOutcome_good (s := ended) hpolled _ _
      _ = _ := State.applyGood_inService (s := ended) hprobing hheard state

end Sys2Proof.Machine
end

section
/-! SUPPORT. SET_TRAIN_SET, and the Supervisor's count after a reply (O42, O50). -/

namespace Sys2Proof.Machine

/-! ## Fields judged in index order (R170) -/

/-- When the checks, in index order, say of each field whether it is good, the first bad field is the one named. -/
theorem firstBad_first {good : Nat → Prop} {l : List (Nat × Bool)} (horder : l.Pairwise fun f g => f.1 < g.1)
    (hchecks : ∀ f ∈ l, f.2 = true ↔ good f.1) {n : Nat} (hn : n ∈ l.map Prod.fst) (hbad : ¬ good n)
    (hfirst : ∀ m < n, good m) : firstBad l = some n := by
  obtain ⟨⟨_, b⟩, hmem, rfl⟩ := List.mem_map.mp hn
  obtain rfl : b = false := by simpa using mt (hchecks _ hmem).mp hbad
  obtain ⟨before, rest, rfl⟩ := List.append_of_mem hmem
  have hbefore := (List.pairwise_append.mp horder).2.2
  exact (firstBad_some _ _).mpr ⟨before, rest, rfl, fun f hf =>
    (hchecks f (List.mem_append_left _ hf)).mpr (hfirst _ (hbefore f hf _ List.mem_cons_self))⟩

theorem within_iff (lo hi n : Nat) : within lo hi n = true ↔ lo ≤ n ∧ n ≤ hi := by
  simp [within]

/-- Each check of SET_TRAIN_SET says whether its field is in range (Table 9-4). -/
theorem trainSetChecks_good (p : TrainSetPayload) : ∀ f ∈ trainSetChecks p, f.2 = true ↔ p.FieldGood f.1 := by
  simp [trainSetChecks, TrainSetPayload.FieldGood, within_iff]

theorem trainSetChecks_indices (p : TrainSetPayload) : (trainSetChecks p).map Prod.fst = List.range 6 := rfl

/-- The train set has six fields (Table 9-4). -/
theorem trainSet_good_of_six_le (p : TrainSetPayload) {n : Nat} (h : 6 ≤ n) : p.FieldGood n := by
  obtain ⟨m, rfl⟩ := Nat.exists_eq_add_of_le' h
  exact trivial

theorem trainSet_allGood (p : TrainSetPayload) : firstBad (trainSetChecks p) = none ↔ ∀ n, p.FieldGood n := by
  rw [firstBad_none]
  constructor
  · intro hgood n
    by_cases hn : n < 6
    · have hmem : n ∈ (trainSetChecks p).map Prod.fst := List.mem_range.mpr hn
      obtain ⟨f, hf, rfl⟩ := List.mem_map.mp hmem
      exact (trainSetChecks_good p f hf).mp (hgood f hf)
    · exact trainSet_good_of_six_le p (by omega)
  · exact fun hgood f hf => (trainSetChecks_good p f hf).mpr (hgood f.1)

theorem trainSet_firstBad {p : TrainSetPayload} {n : Nat} (hbad : ¬ p.FieldGood n) (hfirst : ∀ m < n, p.FieldGood m) :
    firstBad (trainSetChecks p) = some n := by
  have hn : n < 6 := by
    by_contra hn
    exact hbad (trainSet_good_of_six_le p (by omega))
  have horder : ((trainSetChecks p).map Prod.fst).Pairwise (· < ·) := by
    rw [trainSetChecks_indices]; exact List.pairwise_lt_range
  exact firstBad_first (List.pairwise_map.mp horder) (trainSetChecks_good p) (List.mem_range.mpr hn) hbad hfirst

/-! ## SET_TRAIN_SET (R141, R173) -/

theorem requestSetTrainSet_refused {p : TrainSetPayload} {n : Nat} (h : firstBad (trainSetChecks p) = some n)
    (s : State) : requestSetTrainSet p s = .refuse s .outOfRange [BitVec.ofNat 8 n] := by
  rw [requestSetTrainSet, h]

/-- The train set is replaced, and a rise of MATCH_WINDOW empties the table (R141, R173). -/
theorem requestSetTrainSet_done {p : TrainSetPayload} (h : firstBad (trainSetChecks p) = none) (s : State) :
    requestSetTrainSet p s = .done { s with
      unit := { s.unit with trainSet := trainSetOf p }
      sup := if s.unit.trainSet.matchWindow < p.matchWindow.toNat then { s.sup with mismatches := [] }
        else s.sup } := by
  rw [requestSetTrainSet, h]
  change Answer.done (if s.unit.trainSet.matchWindow < p.matchWindow.toNat then _ else _) = _
  split <;> rfl

/-- Settles O42: the judging is `trainSet_firstBad`, the effect `requestSetTrainSet_done`. -/
theorem trainSetReplaced : Obligations.TrainSetReplaced := by
  intro tag p s hready
  have hexec := exec_ready (c := .setTrainSet tag p) rfl hready
  refine ⟨fun n hbad hfirst => ?_, fun hgood => ?_⟩
  · rw [hexec, requestSetTrainSet_refused (trainSet_firstBad hbad hfirst)]
    rfl
  · rw [hexec, requestSetTrainSet_done ((trainSet_allGood p).mpr hgood)]
    rfl

/-! ## Which replies are judged (R131, R132) -/

/-- A governing segment starts at or before the chainage it governs (R29). -/
theorem RouteQueue.start_le_of_governing {r : RouteQueue} {p : Nat} {g : Segment} (h : r.governing p = some g) :
    g.start ≤ p := by
  unfold governing at h
  split at h
  · have hfound := List.find?_some h
    simp only [Bool.and_eq_true, decide_eq_true_eq] at hfound
    exact hfound.1
  · cases h

section Judged

variable {s : State} {i : CarId}

/-- A suspended car, and one with no route data, is blanked (R132). -/
theorem State.judgedSegment_none (h : s.sup.suspended[i] = true ∨ s.route.governing (s.carPosition i) = none) :
    s.judgedSegment i = none := by
  unfold judgedSegment
  split
  · rfl
  · next hs => rw [h.resolve_left hs]

/-- An unsuspended car is judged against its governing segment, but for an exempt one and for BLANK_DIST from its
start (R132). -/
theorem State.judgedSegment_governed {g : Segment} (hs : s.sup.suspended[i] = false)
    (hg : s.route.governing (s.carPosition i) = some g) :
    s.judgedSegment i = if g.exempt = true ∨ s.carPosition i < g.start + s.unit.trainSet.blankDist then none
      else some g := by
  have hstart := RouteQueue.start_le_of_governing hg
  have hblank : s.carPosition i - g.start < s.unit.trainSet.blankDist
      ↔ s.carPosition i < g.start + s.unit.trainSet.blankDist := by omega
  unfold judgedSegment
  rw [if_neg (by simp [hs]), hg]
  by_cases he : g.exempt = true <;> simp [he, hblank]

/-- A reply that is not evaluated (R131). -/
theorem State.superviseReply_unevaluated (h : s.odo.positionValid = false ∨ s.gateOpen = false) (r : DriveReport) :
    s.superviseReply i r = s.setPersistence i 0 :=
  if_neg (by rcases h with h | h <;> simp [h])

/-- A reply that is blanked, if it is evaluated at all (R131, R132). -/
theorem State.superviseReply_blanked (h : s.judgedSegment i = none) (r : DriveReport) :
    s.superviseReply i r = s.setPersistence i 0 := by
  unfold superviseReply
  rw [h]
  split <;> rfl

/-- A reply that is judged goes to the residual test (R133, R134). -/
theorem State.superviseReply_judged {g : Segment} (hv : s.odo.positionValid = true) (hopen : s.gateOpen = true)
    (hg : s.judgedSegment i = some g) (r : DriveReport) :
    s.superviseReply i r = s.testResidual i (s.carPosition i) (r.lateral - s.prediction g (s.carPosition i) r.tilt)
      (s.prediction g (s.carPosition i) r.tilt) := by
  unfold superviseReply
  rw [if_pos (by simp [hv, hopen]), hg]

/-! ## The residual test (R134) -/

variable {residual : Int} (p : Nat) (predicted : Int)

theorem State.testResidual_small (h : residual.natAbs ≤ s.unit.trainSet.supThreshold) :
    s.testResidual i p residual predicted = s.setPersistence i 0 :=
  if_neg (by omega)

theorem State.testResidual_counted (h : s.unit.trainSet.supThreshold < residual.natAbs)
    (hn : s.sup.persistence[i] + 1 < s.unit.trainSet.supCount) :
    s.testResidual i p residual predicted = s.setPersistence i (s.sup.persistence[i] + 1) :=
  (if_pos h).trans (if_neg (by omega))

theorem State.testResidual_confirmed (h : s.unit.trainSet.supThreshold < residual.natAbs)
    (hn : s.unit.trainSet.supCount ≤ s.sup.persistence[i] + 1) :
    s.testResidual i p residual predicted = s.confirmMismatch i p residual predicted :=
  (if_pos h).trans (if_pos hn)

end Judged

/-- Settles O50: not evaluated, blanked in two ways, or judged by the residual test. -/
theorem replySupervised : Obligations.ReplySupervised := by
  intro i report s p quiet
  refine ⟨fun h => State.superviseReply_unevaluated h report,
    fun h => State.superviseReply_blanked (State.judgedSegment_none h) report, fun g hg hblank => ?_, ?_⟩
  · cases hs : s.sup.suspended[i] with
    | true => exact State.superviseReply_blanked (State.judgedSegment_none (.inl hs)) report
    | false =>
      have hjudged := (State.judgedSegment_governed hs hg).trans (if_pos hblank)
      exact State.superviseReply_blanked hjudged report
  · intro g hv hopen hs hg hexempt hdist predicted residual n
    have hclear : ¬ (g.exempt = true ∨ p < g.start + s.unit.trainSet.blankDist) :=
      not_or.mpr ⟨by simp [hexempt], by omega⟩
    have hjudged : s.judgedSegment i = some g := (State.judgedSegment_governed hs hg).trans (if_neg hclear)
    have htest : s.superviseReply i report = s.testResidual i p residual predicted :=
      State.superviseReply_judged hv hopen hjudged report
    rw [htest]
    exact ⟨State.testResidual_small p predicted, State.testResidual_counted p predicted,
      State.testResidual_confirmed p predicted⟩

end Sys2Proof.Machine
end

section
/-! SUPPORT. What the actuator link brings keeps every property that time, the phases of a cycle and the end of a
transaction keep. -/

namespace Sys2Proof.Machine

section KeepsPolling

variable {P : State → Prop}
  (hq : ∀ (s : State) (now idleFrom : Nat) (cycle : Option PollCycle), P s →
    P { s with now := now, link := { s.link with lineIdleFrom := idleFrom, cycle := cycle } })
  (hf : ∀ (s : State) (c : PollCycle) (o : TransactionEnd), P s → P (s.finish c o))

include hq

theorem keeps_runTo {s : State} (n : Nat) (h : P s) : P (s.runTo n) := hq s _ s.link.lineIdleFrom s.link.cycle h

theorem keeps_holdLine {s : State} (h : P s) : P s.holdLine := hq s s.now s.now s.link.cycle h

theorem keeps_setPhase {s : State} (c : PollCycle) (p : Phase) (h : P s) : P (s.setPhase c p) :=
  hq s s.now s.link.lineIdleFrom (some { c with phase := p }) h

include hf

theorem keeps_takeByte {s : State} (c : PollCycle) (opened : Nat) (q : Byte) (held : List RxByte) (h : P s) :
    P (s.takeByte c opened q held) := by
  unfold State.takeByte
  split
  · exact keeps_setPhase hq _ _ h
  · exact hf _ _ _ h

theorem keeps_hearByte {s : State} (b : RxByte) (h : P s) : P (s.hearByte b) := by
  have hheld : P s.holdLine := keeps_holdLine hq h
  unfold State.hearByte
  split
  · split
    · split
      · exact keeps_takeByte hq hf _ _ _ _ hheld
      · exact hheld
    · exact keeps_takeByte hq hf _ _ _ _ hheld
    · exact hheld
    · exact h
  · exact hheld

theorem keeps_endIdle {s : State} (limit : Nat) (h : P s) : P (s.endIdle limit) := by
  unfold State.endIdle
  dsimp only
  (repeat' split)
  case h_1.isTrue => exact hf _ _ _ (keeps_runTo hq _ h)
  all_goals exact h

theorem keeps_byteAfter {s : State} (wait : Nat) (b : RxByte) (h : P s) : P (s.byteAfter wait b) :=
  keeps_hearByte hq hf b (keeps_runTo hq _ (keeps_endIdle hq hf _ h))

theorem keeps_hearRun {s : State} (bytes : List RxByte) (h : P s) : P (s.hearRun bytes) := by
  induction bytes generalizing s with
  | nil => exact h
  | cons b more ih => exact ih (keeps_byteAfter hq hf _ b h)

/-- The end of a turn's wait, the close of the window and a reception each end a transaction or leave it open
(R115, R117 to R119). -/
theorem keeps_polling (c : Instr)
    (hc : c = .turnWaitLimit ∨ c = .replyWindowClose ∨ ∃ dt bytes, c = .statusReception dt bytes) {s t : State}
    (he : exec c s = .next t) (h : P s) : P t := by
  rcases hc with rfl | rfl | ⟨dt, bytes, rfl⟩
  · injection he with he; subst he
    (repeat' split)
    case h_1.isFalse => exact hf _ _ _ (keeps_runTo hq _ h)
    all_goals exact h
  · injection he with he; subst he
    split
    · split
      · exact hf _ _ _ (keeps_runTo hq _ h)
      · exact keeps_runTo hq _ h
      · exact h
      · exact h
    · exact h
  · cases bytes with
    | nil =>
      injection he with he; subst he
      exact keeps_endIdle hq hf _ (hq s (s.now + dt) s.link.lineIdleFrom s.link.cycle h)
    | cons first more =>
      rw [exec_statusReception_cons] at he
      injection he with he; subst he
      exact keeps_hearRun hq hf more (keeps_byteAfter hq hf dt first h)

end KeepsPolling

end Sys2Proof.Machine
end

section
/-! SUPPORT. The mismatch table stays apart: what thins it, and the one confirmation that lets a record join
(O55). -/

namespace Sys2Proof.Machine

/-! ## What thins the table -/

/-- From `s` to `t` no record joins the mismatch table, no persistence count rises, and the train set is the same. -/
structure State.ThinsTable (s t : State) : Prop where
  trainSet : t.unit.trainSet = s.unit.trainSet
  persistence : ∀ i : CarId, t.sup.persistence[i] ≤ s.sup.persistence[i]
  mismatches : t.sup.mismatches.Sublist s.sup.mismatches

section Thins

variable {s t u : State}

theorem State.ThinsTable.of_table (trainSet : t.unit.trainSet = s.unit.trainSet)
    (persistence : t.sup.persistence = s.sup.persistence)
    (mismatches : t.sup.mismatches.Sublist s.sup.mismatches) : s.ThinsTable t :=
  ⟨trainSet, fun _ => by rw [persistence], mismatches⟩

theorem State.ThinsTable.of_sup (trainSet : t.unit.trainSet = s.unit.trainSet) (sup : t.sup = s.sup) :
    s.ThinsTable t :=
  .of_table trainSet (by rw [sup]) (by rw [sup])

theorem State.ThinsTable.refl (s : State) : s.ThinsTable s := .of_sup rfl rfl

theorem State.ThinsTable.trans (h₁ : s.ThinsTable t) (h₂ : t.ThinsTable u) : s.ThinsTable u :=
  ⟨h₂.trainSet.trans h₁.trainSet, fun i => (h₂.persistence i).trans (h₁.persistence i),
    h₂.mismatches.trans h₁.mismatches⟩

/-- What thins the table after a change outside it and the train set. -/
theorem State.ThinsTable.congr (h : t.ThinsTable u) (trainSet : t.unit.trainSet = s.unit.trainSet)
    (sup : t.sup = s.sup) : s.ThinsTable u :=
  .trans (.of_sup trainSet sup) h

/-- Turns that each thin the table thin it together. -/
theorem State.ThinsTable.of_foldl {α : Type} (f : State → α → State) (h : ∀ (s : State) i, s.ThinsTable (f s i))
    (l : List α) (s : State) : s.ThinsTable (l.foldl f s) :=
  foldl_keeps s.ThinsTable f (fun _ i hs => hs.trans (h _ i)) l s (.refl s)

/-- A sound table stays sound as it is thinned. -/
theorem State.MismatchSound.thins (h : s.MismatchSound) (ht : s.ThinsTable t) : t.MismatchSound where
  count := by rw [ht.trainSet]; exact h.count
  persistence i := (ht.persistence i).trans (h.persistence i)
  fits := ht.mismatches.length_le.trans h.fits
  apart := by rw [ht.trainSet]; exact h.apart.sublist ht.mismatches

end Thins

/-- A count that is set to 0 (R131, R134, R135). -/
theorem State.setPersistence_zero_thins (s : State) (i : CarId) : s.ThinsTable (s.setPersistence i 0) where
  trainSet := rfl
  persistence j := by rw [setPersistence_get]; split <;> omega
  mismatches := .refl _

/-- A forward change of the position retires records, and nothing else of it touches the table (R140). -/
theorem State.movePosition_thins (s : State) (p r : Nat) : s.ThinsTable (s.movePosition p r) := by
  unfold movePosition
  dsimp only
  split
  · refine .of_table (by simp) (by simp) ?_
    unfold retireMismatches
    simp
  · split <;> exact .of_sup (by simp) (by simp)

/-- A pulse moves the position, or leaves the Supervisor (R1, R6). -/
theorem State.acceptPulse_thins (s : State) (ch : Tacho) (time : Nat) : s.ThinsTable (s.acceptPulse ch time) := by
  have hset : ∀ x : TachoChannel, s.ThinsTable (s.setTacho ch x) := fun x => .of_sup (by simp) (by simp)
  unfold acceptPulse advance
  dsimp only
  (repeat' split)
  · exact (hset _).trans (movePosition_thins _ _ _)
  · exact (hset _).trans (movePosition_thins _ _ _)
  · exact hset _

/-- The cars' turns in the control frame leave the table and the counts (R88). -/
theorem frameCars_thins (v : Nat) (l : List CarId) (s : State) (lead : Option Nat) (car0 : Bool) :
    s.ThinsTable (frameCars v l s lead car0).1 := by
  induction l generalizing s lead car0 with
  | nil => exact .refl s
  | cons i l ih => exact .trans (.of_table (by simp) (by simp) (by simp)) (ih _ _ _)

theorem releaseCars_thins (l : List CarId) (s : State) (n : Nat) : s.ThinsTable (releaseCars l s n).1 := by
  induction l generalizing s n with
  | nil => exact .refl s
  | cons i l ih =>
    unfold releaseCars
    split
    · exact .trans (.of_sup (by simp) (by simp)) (ih _ _)
    · exact ih _ _

/-- A car dropped from the train takes its records and its count with it (R106). -/
theorem State.forgetCar_thins (s : State) (i : CarId) : s.ThinsTable (s.forgetCar i) where
  trainSet := rfl
  persistence := (s.setPersistence_zero_thins i).persistence
  mismatches := List.filter_sublist

/-! ## Commands that thin the table -/

/-- The commands of the odometry, the conditions, the control frame and the sending of setpoints. -/
theorem exec_thins {c : Instr} {s t : State} (he : exec c s = .next t)
    (hc : (∃ dt ch f n, c = .tachoPulse dt ch f n) ∨ (∃ ch, c = .tachoStall ch) ∨ c = .comparisonWindow
      ∨ (∃ dt l, c = .markerPulse dt l) ∨ (∃ dt n, c = .inhibitSet dt n) ∨ (∃ dt n, c = .inhibitClear dt n)
      ∨ (∃ dt n, c = .clockWindow dt n) ∨ c = .linkSilentOnset ∨ c = .controlFrame ∨ c = .pollCycleExpiry
      ∨ (∃ n, c = .setpointSend n) ∨ c = .setpointSent) : s.ThinsTable t := by
  rcases hc with ⟨dt, ch, f, n, rfl⟩ | ⟨ch, rfl⟩ | rfl | ⟨dt, l, rfl⟩ | ⟨dt, n, rfl⟩ | ⟨dt, n, rfl⟩ | ⟨dt, n, rfl⟩
    | rfl | rfl | rfl | ⟨n, rfl⟩ | rfl <;> injection he with he <;> subst he
  case inl =>
    (repeat' split)
    · exact (State.acceptPulse_thins _ _ _).congr (by simp) (by simp)
    all_goals exact .of_sup (by simp) (by simp)
  case inr.inr.inr.inl =>
    have sampled := State.ThinsTable.of_foldl State.markerSample (fun s b => .of_sup (by simp) (by simp)) l (s.after dt)
    exact sampled.congr rfl rfl
  case inr.inr.inr.inr.inr.inr.inr.inr.inl =>
    have ended : ∀ (u : State) lead, u.ThinsTable (u.evaluateLead lead).settle :=
      fun u lead => .of_sup (by simp) (by simp)
    exact State.ThinsTable.congr (.trans (frameCars_thins _ _ _ _ _) (ended _ _)) rfl rfl
  all_goals
    (try dsimp only)
    (repeat' split) <;> exact .of_sup (by simp) (by simp)

/-! ## Requests -/

/-- A position fix moves the position alone of what the table sees (R17, R18). -/
theorem requestPositionFix_thins (n : Byte) (x : BitVec 32) (s : State) :
    s.ThinsTable (requestPositionFix n x s).state := by
  cases hf : findCapture n s.odo.captures with
  | none => rw [requestPositionFix_missing hf]; exact .refl s
  | some found =>
    obtain ⟨captured, newer⟩ := found
    rw [requestPositionFix_found hf, Answer.done_state]
    generalize (x.toNat - captured : Int) = c
    have moved : s.ThinsTable (s.fixMoved c newer) :=
      (State.movePosition_thins _ _ _).congr rfl rfl
    refine moved.trans ?_
    unfold State.fixApplied State.fixReported
    split <;> exact .of_sup (by simp) (by simp)

theorem requestConfigureTrain_thins (p : TrainPayload) (s : State) :
    s.ThinsTable (requestConfigureTrain p s).state := by
  unfold requestConfigureTrain
  split
  · exact .refl s
  · split
    · exact .refl s
    · have left : ∀ (u : State) joins, u.ThinsTable (u.leaveToNextCycle joins) :=
        fun u joins => .of_sup (by simp) (by simp)
      have recounted := State.ThinsTable.of_foldl State.recount (fun u i => .of_sup (by simp) (by simp)) allCars
        { s with unit := { s.unit with settings := trainSettings p } }
      rw [Answer.done_state]
      refine State.ThinsTable.congr (recounted.trans ?_) rfl rfl
      exact .trans (.of_foldl State.forgetCar State.forgetCar_thins _ _) (left _ _)

/-- Every request but SET_TRAIN_SET thins the table, ROUTE_CLEAR and ROUTE_CONFIRM to nothing (R141). -/
theorem request_thins {c : Instr} {k tag : Byte} {m : State → Answer} (hm : requestMeaning c = some (k, tag, m))
    (hc : ∀ g p, c ≠ .setTrainSet g p) (s : State) : s.ThinsTable (m s).state := by
  cases c <;> simp only [requestMeaning, reduceCtorEq, Option.some.injEq, Prod.mk.injEq] at hm <;>
    obtain ⟨-, -, rfl⟩ := hm
  case configureTrain g p => exact requestConfigureTrain_thins p s
  case setTiltLaw g p =>
    unfold requestSetTiltLaw
    split
    · exact .refl s
    · have staged := fun u : State => State.ThinsTable.of_foldl State.stageCar
        (fun v i => .of_sup (by simp) (by simp)) allCars u
      rw [Answer.done_state]
      exact (staged _).congr rfl rfl
  case setTrainSet g p => exact absurd rfl (hc g p)
  case setModeRun g =>
    unfold requestSetModeRun
    (repeat' split) <;> exact .of_sup (by simp) (by simp)
  case setModeConfig g =>
    unfold requestSetModeConfig
    split
    · have drained := State.ThinsTable.of_foldl State.drainCar (fun u i => .of_sup (by simp) (by simp)) allCars
        (s.changeMode .draining)
      exact (drained.trans (.of_sup (by simp) (by simp))).congr (by simp) (by simp)
    · exact .refl s
    · exact .refl s
  case setPosition g x =>
    unfold requestSetPosition
    split
    · exact .refl s
    · split
      · exact .refl s
      · exact (State.movePosition_thins _ _ _).congr rfl rfl
  case positionFix g n x => exact requestPositionFix_thins n x s
  case routeAppend g a rs =>
    unfold requestRouteAppend
    (repeat' split) <;> exact .of_sup (by simp [State.append]) (by simp [State.append])
  case routeTruncate g x =>
    unfold requestRouteTruncate
    (repeat' split) <;> exact .of_sup rfl rfl
  case routeClear g => exact .of_table rfl rfl (List.nil_sublist _)
  case routeConfirm g =>
    unfold requestRouteConfirm
    split
    · exact .of_table rfl rfl (List.nil_sublist _)
    · exact .refl s
  case resume g x =>
    unfold requestResume
    (repeat' split)
    · exact releaseCars_thins _ _ _
    all_goals exact .of_sup (by simp) (by simp)
  case resumeAll g => exact releaseCars_thins _ _ _
  case readmit g x =>
    unfold requestReadmit
    (repeat' split) <;> exact .of_sup (by simp) (by simp)
  case queryCar g x => unfold requestQueryCar; split <;> exact .refl s
  case queryRoute g x => unfold requestQueryRoute; split <;> exact .refl s
  case restart g => unfold requestRestart; split <;> exact .of_sup rfl rfl
  case identify | queryTrain => exact .refl s

section Sound

variable {s t : State}

/-- A narrower window parts the records all the more, and a wider one finds the table empty (R141, R173). -/
theorem State.MismatchSound.requestSetTrainSet (h : s.MismatchSound) (p : TrainSetPayload) :
    (requestSetTrainSet p s).state.MismatchSound := by
  cases hbad : firstBad (trainSetChecks p) with
  | some n => rw [requestSetTrainSet_refused hbad]; exact h
  | none =>
    have hcount : 2 ≤ p.supCount.toNat ∧ p.supCount.toNat ≤ 16 := (trainSet_allGood p).mp hbad 2
    rw [requestSetTrainSet_done hbad, Answer.done_state]
    split
    · exact ⟨hcount.2, h.persistence, Nat.zero_le _, .nil⟩
    · next hrise =>
      have narrower : p.matchWindow.toNat ≤ s.unit.trainSet.matchWindow := Nat.le_of_not_lt hrise
      exact ⟨hcount.2, h.persistence, h.fits,
        h.apart.imp fun hapart hcars => Nat.lt_of_le_of_lt narrower (hapart hcars)⟩

theorem State.MismatchSound.request {c : Instr} {k tag : Byte} {m : State → Answer}
    (hm : requestMeaning c = some (k, tag, m)) (h : s.MismatchSound) : (m s).state.MismatchSound := by
  by_cases hc : ∃ g p, c = .setTrainSet g p
  · obtain ⟨g, p, rfl⟩ := hc
    cases hm
    exact h.requestSetTrainSet p
  · exact h.thins (request_thins hm (fun g p e => hc ⟨g, p, e⟩) s)

/-! ## A confirmation (R135 to R139) -/

/-- The records that stay when a new one joins (R139). -/
theorem insertMismatch_kept (table : List Mismatch) (m : Mismatch) :
    ∃ kept, insertMismatch table m = kept ++ [m] ∧ kept.Sublist table ∧ (table.length ≤ 4 → kept.length ≤ 3) := by
  refine ⟨_, rfl, ?_, fun h => ?_⟩
  · split
    · exact .refl _
    · exact List.drop_sublist _ _
  · split
    · omega
    · rw [List.length_drop]; omega

theorem State.not_nearby_iff (s : State) (p q : Nat) :
    s.nearby p q = false ↔ s.unit.trainSet.matchWindow < max p q - min p q :=
  decide_eq_false_iff_not.trans Nat.not_le

/-- A record joins only where none is near, so it lies apart from all that stay (R137 to R139). -/
theorem State.MismatchSound.join (h : s.MismatchSound) (i : CarId) {p : Nat}
    (hfar : ∀ m ∈ s.sup.mismatches, s.nearby m.chainage p = false) :
    ({ s with sup := { s.sup with mismatches := insertMismatch s.sup.mismatches ⟨p, i⟩ } } : State).MismatchSound := by
  obtain ⟨kept, hinsert, hsub, hlength⟩ := insertMismatch_kept s.sup.mismatches ⟨p, i⟩
  have hfits := hlength h.fits
  have hnew : ∀ m ∈ kept, Mismatch.apart s.unit.trainSet.matchWindow m ⟨p, i⟩ := fun m hm _ =>
    (s.not_nearby_iff m.chainage p).mp (hfar m (hsub.subset hm))
  refine ⟨h.count, h.persistence, ?_, ?_⟩
  · change (insertMismatch s.sup.mismatches ⟨p, i⟩).length ≤ 4
    rw [hinsert, List.length_append, List.length_singleton]
    omega
  · change (insertMismatch s.sup.mismatches ⟨p, i⟩).Pairwise _
    rw [hinsert]
    exact List.pairwise_append.mpr ⟨h.apart.sublist hsub, List.pairwise_singleton _ _, by simpa using hnew⟩

theorem State.MismatchSound.consult (h : s.MismatchSound) (i : CarId) (p : Nat) : (s.consult i p).MismatchSound := by
  unfold State.consult
  split
  · exact h.thins (.of_sup (by simp) (by simp))
  · split
    · exact h
    · next hany => exact h.join i (by simpa using hany)

theorem State.MismatchSound.confirmMismatch (h : s.MismatchSound) (i : CarId) (p : Nat) (residual predicted : Int) :
    (s.confirmMismatch i p residual predicted).MismatchSound := by
  unfold State.confirmMismatch
  exact (h.thins ((s.setPersistence_zero_thins i).trans (.of_table (by simp) (by simp) (by simp)))).consult i p

/-- A count that is kept stays below SUP_COUNT, and so below its greatest value (R134). -/
theorem State.MismatchSound.counted (h : s.MismatchSound) (i : CarId) {n : Nat} (hn : n < s.unit.trainSet.supCount) :
    (s.setPersistence i n).MismatchSound where
  count := h.count
  persistence j := by
    have hcount := h.count
    rw [setPersistence_get]
    split
    · omega
    · exact h.persistence j
  fits := h.fits
  apart := h.apart

theorem State.MismatchSound.testResidual (h : s.MismatchSound) (i : CarId) (p : Nat) (residual predicted : Int) :
    (s.testResidual i p residual predicted).MismatchSound := by
  by_cases hlarge : s.unit.trainSet.supThreshold < residual.natAbs
  · by_cases hn : s.sup.persistence[i] + 1 < s.unit.trainSet.supCount
    · rw [testResidual_counted p predicted hlarge hn]
      exact h.counted i hn
    · rw [testResidual_confirmed p predicted hlarge (Nat.le_of_not_lt hn)]
      exact h.confirmMismatch i p residual predicted
  · rw [testResidual_small p predicted (Nat.le_of_not_lt hlarge)]
    exact h.thins (s.setPersistence_zero_thins i)

theorem State.MismatchSound.superviseReply (h : s.MismatchSound) (i : CarId) (r : DriveReport) :
    (s.superviseReply i r).MismatchSound := by
  have quiet := h.thins (s.setPersistence_zero_thins i)
  unfold State.superviseReply
  split
  · split
    · exact quiet
    · exact h.testResidual i _ _ _
  · exact quiet

/-! ## The outcome of a transaction (R119) -/

theorem State.MismatchSound.applyGood (h : s.MismatchSound) (i : CarId) (st : Byte) (r : DriveReport) :
    (s.applyGood i st r).MismatchSound := by
  unfold State.applyGood
  extract_lets probing previous healed drive stored followed supervised
  have hfollowed : followed.MismatchSound :=
    h.thins (.of_sup (by simp [followed, stored, healed]) (by simp [followed, stored, healed]))
  have hsupervised : supervised.MismatchSound := by
    simp only [supervised]
    split
    · exact hfollowed.superviseReply i r
    · exact hfollowed
  split
  · exact hsupervised.thins (.of_sup (by simp) (by simp))
  · exact hsupervised

/-- An isolated car's count becomes 0 (R102). -/
theorem State.isolate_thins (s : State) (i : CarId) (corrupt : Bool) : s.ThinsTable (s.isolate i corrupt) := by
  have ended : ∀ u : State,
      u.ThinsTable ((u.enter i .isolated .isolation).postIsolated i false corrupt).settle :=
    fun u => .of_sup (by simp) (by simp)
  unfold isolate
  refine .trans ?_ (ended _)
  exact (setPersistence_zero_thins _ i).congr rfl rfl

theorem State.failReply_thins (s : State) (i : CarId) (corrupt : Bool) : s.ThinsTable (s.failReply i corrupt) := by
  unfold failReply
  dsimp only
  split
  · exact (isolate_thins _ i corrupt).congr rfl rfl
  · split <;> exact .of_sup (by simp) (by simp)

theorem State.MismatchSound.applyOutcome (h : s.MismatchSound) (i : CarId) (o : TransactionEnd) :
    (s.applyOutcome i o).MismatchSound := by
  have failed : ∀ corrupt, (if s.cars[i].state = .probing then s.failProbe i corrupt
      else s.failReply i corrupt).MismatchSound := by
    intro corrupt
    split
    · exact h.thins (.of_sup (by simp) (by simp))
    · exact h.thins (s.failReply_thins i corrupt)
  unfold State.applyOutcome
  split
  · cases o with
    | good st r => exact h.applyGood i st r
    | corrupt => exact failed true
    | miss => exact failed false
  · exact h

theorem State.MismatchSound.finish (h : s.MismatchSound) (c : PollCycle) (o : TransactionEnd) :
    (s.finish c o).MismatchSound :=
  (h.applyOutcome c.current o).thins (.of_sup (by simp [State.finish]) (by simp [State.finish]))

/-! ## Every step -/

theorem State.MismatchSound.hardwareReset {b : Bool} (he : execHardwareReset b s = .next t) : t.MismatchSound := by
  injection he with he; subst he
  have blank : ({ State.blank (if b then .powerOn else .resetLine) with pending := s.pending } : State).MismatchSound :=
    State.reset_mismatchSound.thins (.of_sup rfl rfl)
  unfold State.postStarted
  exact blank.thins (.of_sup (by simp) (by simp))

theorem State.MismatchSound.restart (s : State) : s.restart.MismatchSound := by
  rw [restart_eq]
  exact State.reset_mismatchSound.thins (.of_sup rfl rfl)

theorem State.MismatchSound.exec {c : Instr} (he : exec c s = .next t) (h : s.MismatchSound) : t.MismatchSound := by
  have control := fun hc => keeps_control (P := State.MismatchSound) (fun _ _ h => h.thins (.of_sup rfl rfl))
    (fun _ _ _ _ _ hm h => h.request hm) (fun _ h => h.thins (.of_sup (by simp) (by simp)))
    (fun _ _ _ h => h.thins (.of_sup rfl rfl)) (fun s _ => .restart s) c hc he h
  have polling := fun hc => keeps_polling (P := State.MismatchSound) (fun _ _ _ _ h => h.thins (.of_sup rfl rfl))
    (fun _ c o h => h.finish c o) c hc he h
  have thinned := fun hc => h.thins (exec_thins he hc)
  cases c
  case hardwareReset => exact .hardwareReset he
  case turnWaitLimit | replyWindowClose | statusReception => exact polling (by simp)
  case tachoPulse | tachoStall | comparisonWindow | markerPulse | inhibitSet | inhibitClear | clockWindow
    | linkSilentOnset | controlFrame | pollCycleExpiry | setpointSend | setpointSent => exact thinned (by simp)
  all_goals exact control (by simp [requestMeaning])

/-- Settles O55: a record joins only where none is near, a rise of MATCH_WINDOW empties the table, and every other
event only thins it. -/
theorem mismatchTableStaysApart : Obligations.MismatchTableStaysApart := by
  intro s t hstep h
  rcases step_cases hstep with ⟨c, rest, -, he⟩ | ⟨c, -, -, he⟩ | ⟨-, -, rfl⟩
  · exact .exec he (h.thins (.of_sup rfl rfl))
  · exact .exec he h
  · exact h.thins (.of_sup rfl rfl)

end Sound

end Sys2Proof.Machine
end

section
/-! SUPPORT. The clock supervisor: a failed window switches over once, and every command but a hardware reset leaves the
clock to it (O53). -/

namespace Sys2Proof.Machine

/-! ## The window (R154 to R156) -/

theorem State.switchover_spec (s : State) :
    s.switchover = { s with
        mon := { s.mon with clock := .internal, clockFallback := true }, ctl := s.switchover.ctl }
      ∧ s.ctl.Reports s.switchover.ctl [] [s.notice .clockFallback none 1 0] :=
  ⟨State.post_eq _ _ _ _ _,
    State.post_reports { s with mon := { s.mon with clock := .internal, clockFallback := true } } _ _ _ _⟩

theorem exec_clockWindow_fails {s : State} {periods : Nat} (hf : s.mon.clockFallback = false) (hp : periods < 800)
    (dt : Nat) : exec (.clockWindow dt periods) s = .next (s.after dt).switchover :=
  congrArg _ (if_pos ⟨hf, hp⟩)

theorem exec_clockWindow_passes {s : State} {periods : Nat} (h : s.mon.clockFallback = true ∨ 800 ≤ periods)
    (dt : Nat) : exec (.clockWindow dt periods) s = .next (s.after dt) := by
  refine congrArg _ (if_neg fun ⟨hf, (hp : periods < 800)⟩ => ?_)
  rcases h with h | h
  · exact nomatch hf.symm.trans h
  · omega

/-! ## The Monitor under the requests -/

theorem releaseCars_mon (l : List CarId) (s : State) (n : Nat) : (releaseCars l s n).1.mon = s.mon := by
  induction l generalizing s n with
  | nil => rfl
  | cons i l ih =>
    unfold releaseCars
    split
    · rw [ih]; simp
    · exact ih _ _

theorem State.fixApplied_mon (s : State) (c : Int) (newer : List Capture) : (s.fixApplied c newer).mon = s.mon := by
  unfold fixApplied fixReported fixMoved
  split <;> simp

/-- No request touches the Condition Monitor. -/
theorem request_mon {c : Instr} {k tag : Byte} {m : State → Answer} (hm : requestMeaning c = some (k, tag, m))
    (s : State) : (m s).state.mon = s.mon := by
  have turns {f : State → CarId → State} (h : ∀ s i, (f s i).mon = s.mon) (l : List CarId) (s : State) :
      (l.foldl f s).mon = s.mon := foldl_view State.mon f h l s
  cases c <;> simp only [requestMeaning, reduceCtorEq, Option.some.injEq, Prod.mk.injEq] at hm <;>
    obtain ⟨-, -, rfl⟩ := hm
  case configureTrain =>
    unfold requestConfigureTrain
    (repeat' split) <;> simp [turns]
  case setTiltLaw => unfold requestSetTiltLaw; split <;> simp [turns]
  case setModeConfig => unfold requestSetModeConfig; split <;> simp [turns]
  case positionFix n x =>
    cases hf : findCapture n s.odo.captures with
    | none => rw [requestPositionFix_missing hf]; rfl
    | some found => rw [requestPositionFix_found hf]; exact s.fixApplied_mon _ _
  case resume =>
    unfold requestResume
    (repeat' split)
    · exact releaseCars_mon _ _ _
    all_goals simp
  case resumeAll => exact releaseCars_mon _ _ _
  case setTrainSet => unfold requestSetTrainSet; (repeat' split) <;> simp [apply_ite State.mon]
  case setModeRun => unfold requestSetModeRun; (repeat' split) <;> simp
  case setPosition => unfold requestSetPosition; (repeat' split) <;> simp
  case routeAppend => unfold requestRouteAppend; (repeat' split) <;> simp [State.append]
  case routeTruncate => unfold requestRouteTruncate; (repeat' split) <;> rfl
  case routeConfirm => unfold requestRouteConfirm; split <;> rfl
  case readmit => unfold requestReadmit; (repeat' split) <;> simp
  case queryCar => unfold requestQueryCar; split <;> rfl
  case queryRoute => unfold requestQueryRoute; split <;> rfl
  case restart => unfold requestRestart; split <;> rfl
  case identify | routeClear | queryTrain => rfl

/-! ## The clock under every command -/

/-- From `s` to `t` the clock source and CLOCK_FALLBACK stay. -/
structure State.KeepsClock (s t : State) : Prop where
  clock : t.mon.clock = s.mon.clock
  clockFallback : t.mon.clockFallback = s.mon.clockFallback

section Clock

variable {s t u : State}

theorem State.KeepsClock.of_mon (h : t.mon = s.mon) : s.KeepsClock t := ⟨by rw [h], by rw [h]⟩

theorem State.KeepsClock.trans (h₁ : s.KeepsClock t) (h₂ : t.KeepsClock u) : s.KeepsClock u :=
  ⟨h₂.clock.trans h₁.clock, h₂.clockFallback.trans h₁.clockFallback⟩

theorem State.heardFrame_keepsClock (s : State) : s.KeepsClock s.heardFrame := ⟨by simp, by simp⟩

theorem State.restart_keepsClock (s : State) : s.KeepsClock s.restart := by
  rw [restart_eq]
  exact ⟨rfl, rfl⟩

theorem frameCars_mon (v : Nat) (l : List CarId) (s : State) (lead : Option Nat) (car0 : Bool) :
    (frameCars v l s lead car0).1.mon = s.mon := by
  induction l generalizing s lead car0 with
  | nil => rfl
  | cons i l ih => rw [frameCars, ih]; simp

/-- Only a failed window and a hardware reset touch the clock. -/
theorem exec_keepsClock {c : Instr} (he : exec c s = .next t) (hreset : ∀ b, c ≠ .hardwareReset b)
    (hwindow : ∀ dt n, c ≠ .clockWindow dt n) : s.KeepsClock t := by
  have control := fun hc => keeps_control (P := s.KeepsClock) (fun _ _ h => h.trans (.of_mon rfl))
    (fun _ _ _ _ u hm h => h.trans (.of_mon (request_mon hm u))) (fun u h => h.trans u.heardFrame_keepsClock)
    (fun _ _ _ h => h.trans (.of_mon rfl)) (fun u h => h.trans u.restart_keepsClock) c hc he (.of_mon rfl)
  have polling := fun hc => keeps_polling (P := s.KeepsClock) (fun _ _ _ _ h => h.trans (.of_mon rfl))
    (fun _ _ _ h => h.trans (.of_mon (by simp))) c hc he (.of_mon rfl)
  cases c
  case hardwareReset b => exact absurd rfl (hreset b)
  case clockWindow dt n => exact absurd rfl (hwindow dt n)
  case turnWaitLimit | replyWindowClose | statusReception => exact polling (by simp)
  case markerPulse dt l =>
    injection he with he; subst he
    exact .of_mon (foldl_view State.mon State.markerSample (fun s b => by simp) l (s.after dt))
  case controlFrame =>
    injection he with he; subst he
    exact .of_mon (by simp [frameCars_mon])
  case linkSilentOnset | setpointSend =>
    injection he with he; subst he
    dsimp only
    (repeat' split) <;> exact ⟨by simp, by simp⟩
  case tachoPulse | tachoStall | comparisonWindow | inhibitSet | inhibitClear | pollCycleExpiry | setpointSent =>
    injection he with he; subst he
    (repeat' split) <;> exact ⟨by simp, by simp⟩
  all_goals exact control (by simp [requestMeaning])

end Clock

/-- Settles O53: a failed window switches over, a window under CLOCK_FALLBACK changes nothing, and no other command but
the hardware reset touches the clock. -/
theorem clockFallbackIsLatched : Obligations.ClockFallbackIsLatched := by
  refine ⟨fun dt periods s => ⟨fun hf hp => ?_, fun h => exec_clockWindow_passes h dt⟩, ?_⟩
  · exact ⟨_, exec_clockWindow_fails hf hp dt, (s.after dt).switchover_spec⟩
  · intro c s t he hreset hlatched
    by_cases hwindow : ∃ dt n, c = .clockWindow dt n
    · obtain ⟨dt, n, rfl⟩ := hwindow
      rw [exec_clockWindow_passes (.inl hlatched)] at he
      injection he with he; subst he
      exact ⟨hlatched, rfl⟩
    · have h := exec_keepsClock he hreset fun dt n e => hwindow ⟨dt, n, e⟩
      exact ⟨h.clockFallback.trans hlatched, h.clock⟩

end Sys2Proof.Machine
end

section
/-! SUPPORT. Requests written to frames and read back: byte order, segment records, payloads (Chapter 11). -/

namespace Sys2Proof

/-! ## Byte order (R194) -/

@[simp] theorem join16_extract (x : BitVec 16) : join16 (x.extractLsb' 8 8) (x.extractLsb' 0 8) = x :=
  (BitVec.extractLsb'_append_extractLsb'_eq_extractLsb' rfl).trans BitVec.extractLsb'_eq_self

@[simp] theorem join24_extract (x : BitVec 24) :
    join24 (x.extractLsb' 16 8) (x.extractLsb' 8 8) (x.extractLsb' 0 8) = x := by
  rw [join24, BitVec.extractLsb'_append_extractLsb'_eq_extractLsb' (start₂ := 8) rfl,
    BitVec.extractLsb'_append_extractLsb'_eq_extractLsb' (start₂ := 16) rfl, BitVec.extractLsb'_eq_self]

@[simp] theorem join32_extract (x : BitVec 32) :
    join32 (x.extractLsb' 24 8) (x.extractLsb' 16 8) (x.extractLsb' 8 8) (x.extractLsb' 0 8) = x := by
  rw [join32, BitVec.extractLsb'_append_extractLsb'_eq_extractLsb' (start₂ := 8) rfl,
    BitVec.extractLsb'_append_extractLsb'_eq_extractLsb' (start₂ := 16) rfl,
    BitVec.extractLsb'_append_extractLsb'_eq_extractLsb' (start₂ := 24) rfl, BitVec.extractLsb'_eq_self]

theorem decodeChainage_bytes32 (f : BitVec 32 → Instr) (x : BitVec 32) :
    decodeChainage f (bytes32 x) = .request (f x) := by
  simp [decodeChainage, bytes32]

/-! ## The parameter sets (Tables 11-4, 11-5) -/

theorem decodeLaw_bytes (tag : Byte) (p : LawPayload) : decodeLaw tag p.bytes = .request (.setTiltLaw tag p) := by
  simp [decodeLaw, LawPayload.bytes, bytes16]

theorem decodeTrainSet_bytes (tag : Byte) (p : TrainSetPayload) :
    decodeTrainSet tag p.bytes = .request (.setTrainSet tag p) := by
  simp [decodeTrainSet, TrainSetPayload.bytes, bytes16, bytes32]

theorem vector_eight {α : Type} (v : Vector α 8) : v = #v[v[0], v[1], v[2], v[3], v[4], v[5], v[6], v[7]] := by
  ext i hi
  match i with
  | 0 | 1 | 2 | 3 | 4 | 5 | 6 | 7 => rfl

theorem decodeTrain_bytes (tag : Byte) (p : TrainPayload) :
    decodeTrain tag p.bytes = .request (.configureTrain tag p) := by
  obtain ⟨n, offsets, dppA, dppB, odoLimit, tiltMax, fixWindow, silence, sr, dr, vr, threshold, quiet, absolute⟩ := p
  rw [vector_eight offsets]
  simp [decodeTrain, TrainPayload.bytes, bytes16, halfAt, byteAt]

/-! ## Segment records (Table 11-6, R195) -/

theorem SegmentPayload.lengthWord_cap (r : SegmentPayload) : r.lengthWord.getLsbD 21 = r.cap.isSome := by
  refine (BitVec.getLsbD_append (x := r.exempt)).trans ?_
  rw [if_pos (by decide), BitVec.getLsbD_append, if_neg (by decide)]
  cases r.cap <;> simp

theorem SegmentPayload.lengthWord_length (r : SegmentPayload) : r.lengthWord.extractLsb' 0 21 = r.length := by
  rw [lengthWord, BitVec.extractLsb'_append_eq_of_add_le (by decide), BitVec.extractLsb'_append_eq_right]

theorem SegmentPayload.lengthWord_exempt (r : SegmentPayload) : r.lengthWord.extractLsb' 22 2 = r.exempt :=
  BitVec.extractLsb'_append_eq_left

theorem parseSegment_bytes (r : SegmentPayload) (rest : List Byte) :
    parseSegment (r.bytes ++ rest) = some (r, rest) := by
  have hcap := r.lengthWord_cap
  have hlength := r.lengthWord_length
  have hexempt := r.lengthWord_exempt
  generalize hw : r.lengthWord = w at *
  obtain ⟨segId, length, exempt, cStart, cEnd, hStart, hEnd, cap⟩ := r
  cases cap <;> simp_all [SegmentPayload.bytes, bytes16, bytes24, parseSegment, segmentOf]

theorem SegmentPayload.bytes_length_le (r : SegmentPayload) : r.bytes.length ≤ 15 := by
  unfold bytes
  cases r.cap <;> simp [bytes16, bytes24]

theorem parseSegments_bytes (records : List SegmentPayload) {n : Nat} (h : records.length ≤ n) :
    parseSegments n (records.flatMap SegmentPayload.bytes) = some records := by
  induction records generalizing n with
  | nil => cases n <;> rfl
  | cons r rest ih =>
    obtain ⟨n, rfl⟩ : ∃ m, n = m + 1 := ⟨n - 1, by simp at h; omega⟩
    have hparse := parseSegment_bytes r (rest.flatMap SegmentPayload.bytes)
    rw [List.flatMap_cons]
    cases hb : r.bytes ++ rest.flatMap SegmentPayload.bytes with
    | nil => rw [hb] at hparse; cases hparse
    | cons b bs =>
      rw [hb] at hparse
      simp only [parseSegments, hparse, ih (Nat.le_of_succ_le_succ h), Option.map_some]

theorem decodeAppend_bytes (tag : Byte) (anchor : BitVec 32) {records : List SegmentPayload} (h₁ : 1 ≤ records.length)
    (h₆ : records.length ≤ 6) : decodeAppend tag (bytes32 anchor ++ records.flatMap SegmentPayload.bytes)
      = .request (.routeAppend tag anchor records) := by
  have hparse := parseSegments_bytes records h₆
  cases hb : records.flatMap SegmentPayload.bytes with
  | nil =>
    rw [hb] at hparse
    obtain rfl : [] = records := Option.some.inj hparse
    simp at h₁
  | cons b bs =>
    rw [hb] at hparse
    simp [decodeAppend, bytes32, hparse]

/-! ## Requests (Table 11-2) -/

theorem decodeRequest_unknown {f : Frame} (h : isRequestKind f.kind = false) :
    decodeRequest f = .request (.unknownRequest f.kind f.tag f.payload) := by
  have : f.kind.toNat = 0 ∨ 0x12 ≤ f.kind.toNat := by simp [isRequestKind] at h; omega
  unfold decodeRequest
  split
  case h_18 => rfl
  all_goals omega

/-- A well-formed request's frame is read as that request. -/
theorem decodeRequest_encodeRequest {c : Instr} {f : Frame} (hw : c.wf = true) (he : encodeRequest c = some f) :
    decodeRequest f = .request c := by
  cases c <;> simp only [encodeRequest, reduceCtorEq, Option.some.injEq] at he <;> subst he
  case unknownRequest kind tag payload =>
    simp only [Instr.wf, Bool.and_eq_true, Bool.not_eq_true'] at hw
    exact decodeRequest_unknown hw.1
  case configureTrain tag p => exact decodeTrain_bytes tag p
  case setTiltLaw tag p => exact decodeLaw_bytes tag p
  case setTrainSet tag p => exact decodeTrainSet_bytes tag p
  case setPosition tag x => exact decodeChainage_bytes32 _ x
  case routeTruncate tag x => exact decodeChainage_bytes32 _ x
  case positionFix tag n x => simp [decodeRequest, decodeFix, bytes32]
  case routeAppend tag anchor records =>
    simp only [Instr.wf, Bool.and_eq_true, decide_eq_true_eq] at hw
    exact decodeAppend_bytes tag anchor hw.1 hw.2
  case resume tag car =>
    have hcar : car ≠ 0xFF := by simpa [Instr.wf] using hw
    exact if_neg hcar
  all_goals rfl

/-- The payload of a well-formed request fits a frame (R179). -/
theorem encodeRequest_payload_length {c : Instr} {f : Frame} (hw : c.wf = true) (he : encodeRequest c = some f) :
    f.payload.length ≤ 120 := by
  cases c <;> simp only [encodeRequest, reduceCtorEq, Option.some.injEq] at he <;> subst he
  case unknownRequest kind tag payload =>
    simp only [Instr.wf, Bool.and_eq_true, decide_eq_true_eq] at hw
    exact hw.2
  case configureTrain tag p =>
    simp [TrainPayload.bytes, bytes16]
  case routeAppend tag anchor records =>
    simp only [Instr.wf, Bool.and_eq_true, decide_eq_true_eq] at hw
    have hsum : (records.map (·.bytes.length)).sum ≤ records.length * 15 := by
      simpa using List.sum_le_card_nsmul (records.map (·.bytes.length)) 15 (by simp [SegmentPayload.bytes_length_le])
    simp [bytes32]
    omega
  all_goals simp [LawPayload.bytes, TrainSetPayload.bytes, bytes16, bytes32]

/-! ## The bytes of a frame (Table 11-1) -/

/-- The bytes that the CRC of a frame covers. -/
def Frame.covered (f : Frame) : List Byte := BitVec.ofNat 8 f.payload.length :: f.kind :: f.tag :: f.payload

/-- What follows the SYNC of a frame. -/
def Frame.body (f : Frame) : List Byte := f.covered ++ bytes16 (crc16 f.covered)

theorem Frame.bytes_eq (f : Frame) : f.bytes = syncByte :: f.body := rfl

theorem Frame.body_length (f : Frame) : f.body.length = f.payload.length + 5 := by
  simp [body, covered, bytes16]

theorem Frame.lenByte_toNat {f : Frame} (h : f.payload.length ≤ 120) :
    (BitVec.ofNat 8 f.payload.length).toNat = f.payload.length := by
  rw [BitVec.toNat_ofNat]
  exact Nat.mod_eq_of_lt (by omega)

end Sys2Proof
end

section
/-! SUPPORT. The receiver over the bytes of one frame: what it finds, when each byte is taken, and the state it leaves
(R179, R180). -/

namespace Sys2Proof.Machine

/-! ## What the receiver finds in a frame (R179) -/

theorem scan_skip (l rest : List Byte) : scan l.length (l ++ rest) = scan 0 rest := by
  induction l with
  | nil => rfl
  | cons b l ih => exact ih

section Frames

variable {f : Frame} (h : f.payload.length ≤ 120)

include h

theorem checkFrame_body : checkFrame f.body = .frame f := by
  have htake : (f.payload ++ bytes16 (crc16 f.covered)).take f.payload.length = f.payload := List.take_left
  have hdrop : (f.payload ++ bytes16 (crc16 f.covered)).drop f.payload.length = bytes16 (crc16 f.covered) :=
    List.drop_left
  simp only [Frame.body, Frame.covered, List.cons_append, checkFrame, Frame.lenByte_toNat h] at htake hdrop ⊢
  rw [htake, hdrop, if_pos rfl]

/-- A whole frame is found, and hunting goes on with the bytes after it. -/
theorem scan_frame (rest : List Byte) :
    scan 0 (f.bytes ++ rest) = (.frame f :: (scan 0 rest).1, (scan 0 rest).2) := by
  obtain ⟨len, more, hbody⟩ : ∃ len more, f.body = len :: more := ⟨_, _, rfl⟩
  have hlen : len.toNat = f.payload.length := by
    rw [← Frame.lenByte_toNat h, (List.cons.inj hbody).1]
  have hlength : (len :: more).length = len.toNat + 5 := by rw [← hbody, f.body_length, hlen]
  have hcheck : checkFrame (len :: more) = .frame f := by rw [← hbody, checkFrame_body h]
  have htake : (len :: (more ++ rest)).take (len.toNat + 5) = len :: more := by
    rw [← List.cons_append, ← hlength, List.take_left]
  have hskip : scan (len.toNat + 5) (len :: (more ++ rest)) = scan 0 rest := by
    rw [← hlength]; exact scan_skip (len :: more) rest
  rw [f.bytes_eq, hbody, List.cons_append, List.cons_append, scan, if_neg (not_not.mpr rfl)]
  dsimp only
  rw [if_neg (by omega), if_neg (by simp at hlength ⊢; omega), htake, hcheck]
  dsimp only
  rw [hskip]

/-- While a frame is not complete the receiver gathers its bytes. -/
theorem scan_gathers {p : List Byte} (hp : p <+: f.bytes) (hne : p ≠ []) (hlt : p.length < f.bytes.length) :
    scan 0 p = ([], p) := by
  have hlen := Frame.lenByte_toNat h
  rw [f.bytes_eq] at hp hlt
  match p, hp with
  | [_], hp =>
    obtain ⟨rfl, -⟩ := List.cons_prefix_cons.mp hp
    rfl
  | _ :: len :: more, hp =>
    obtain ⟨rfl, hbody⟩ := List.cons_prefix_cons.mp hp
    obtain ⟨rfl, -⟩ := List.cons_prefix_cons.mp hbody
    rw [scan, if_neg (not_not.mpr rfl)]
    dsimp only
    rw [if_neg (by omega), if_pos (by simp [f.body_length] at hlt ⊢; omega)]

end Frames

/-! ## Bytes that arrive without pause -/

/-- The state at `now`, when a byte has just been examined and these bytes are in gathering. -/
def State.gathering (s : State) (now : Nat) (bytes : List Byte) : State :=
  { s with now := now, ctl := { s.ctl with rxBuffer := bytes, rxLast := now } }

theorem State.receiveByte_inTime {s : State} (h : s.ctl.rxBuffer = [] ∨ s.now ≤ s.ctl.rxLast + 2000) (b : Byte) :
    s.receiveByte b = (scan 0 (s.ctl.rxBuffer ++ [b])).1.foldl State.handle
      (s.gathering s.now (scan 0 (s.ctl.rxBuffer ++ [b])).2) := by
  have hgap : s.closeGap = s := if_neg fun ⟨hne, (hlate : s.ctl.rxLast + 2000 < s.now)⟩ =>
    h.elim hne fun hle => by omega
  unfold receiveByte
  rw [hgap]
  rfl

theorem receiveBytes_append (start k : Nat) (l m : List Byte) (s : State) :
    receiveBytes start k (l ++ m) s = receiveBytes start (k + l.length) m (receiveBytes start k l s) := by
  induction l generalizing k s with
  | nil => rfl
  | cons b l ih =>
    rw [List.cons_append, receiveBytes, ih, receiveBytes, List.length_cons, Nat.add_assoc, Nat.add_comm 1]

theorem controlBytesTime_succ (n : Nat) :
    controlBytesTime n ≤ controlBytesTime (n + 1) ∧ controlBytesTime (n + 1) ≤ controlBytesTime n + 2000 := by
  unfold controlBytesTime
  omega

/-- Bytes that arrive without pause while hunting, none but the last of which ends a frame, are all examined at the time
of the last. -/
theorem receiveBytes_gathered {s : State} (hunting : s.ctl.rxBuffer = []) (b : Byte) (l : List Byte)
    (hl : ∀ p, p <+: l → p ≠ [] → scan 0 p = ([], p)) :
    receiveBytes s.now 0 (l ++ [b]) s = (scan 0 (l ++ [b])).1.foldl State.handle
      (s.gathering (s.now + controlBytesTime l.length) (scan 0 (l ++ [b])).2) := by
  induction l using List.reverseRecOn generalizing b with
  | nil =>
    have hnow : s.runTo (s.now + controlBytesTime 0) = s := by simp [State.runTo, controlBytesTime]
    rw [List.nil_append, receiveBytes, receiveBytes, hnow, State.receiveByte_inTime (.inl hunting), hunting]
    rfl
  | append_singleton l c ih =>
    have htime := controlBytesTime_succ l.length
    rw [receiveBytes_append, ih c fun p hp => hl p (hp.trans (List.prefix_append _ _)),
      hl (l ++ [c]) (List.prefix_rfl) (by simp), receiveBytes, receiveBytes, List.foldl_nil, List.length_append,
      List.length_singleton, Nat.zero_add]
    have hrun : (s.gathering (s.now + controlBytesTime l.length) (l ++ [c])).runTo
        (s.now + controlBytesTime (l.length + 1))
        = { s.gathering (s.now + controlBytesTime l.length) (l ++ [c]) with
            now := s.now + controlBytesTime (l.length + 1) } := by
      simp [State.runTo, State.gathering]; omega
    rw [hrun, State.receiveByte_inTime (.inr _)]
    · rfl
    · simp [State.gathering]; omega

/-- The bytes of a frame, received while hunting, hand the frame on at the time of the last. -/
theorem exec_controlFrameReceived_frame {f : Frame} (h : f.payload.length ≤ 120) {s : State}
    (hunting : s.ctl.rxBuffer = []) (dt : Nat) : exec (.controlFrameReceived dt f.bytes) s
      = .next ((s.gathering (s.now + dt + controlBytesTime (f.bytes.length - 1)) []).validFrame f) := by
  have hne : f.bytes ≠ [] := by rw [f.bytes_eq]; exact List.cons_ne_nil _ _
  have hfound : scan 0 f.bytes = ([.frame f], []) := by simpa [scan] using scan_frame h []
  have hgathers : ∀ p, p <+: f.bytes.dropLast → p ≠ [] → scan 0 p = ([], p) := by
    intro p hp hpne
    have hle := hp.length_le
    have hpos := List.length_pos_iff.mpr hne
    rw [List.length_dropLast] at hle
    exact scan_gathers h (hp.trans (List.dropLast_prefix _)) hpne (by omega)
  have hreceived := receiveBytes_gathered (s := s.after dt) hunting (f.bytes.getLast hne) _ hgathers
  rw [List.dropLast_append_getLast, hfound, List.length_dropLast] at hreceived
  exact congrArg _ hreceived

end Sys2Proof.Machine
end

section
/-! SUPPORT. A request received is its command taken: the frame joins the empty FIFO, the Monitor is told, and the frame
is taken (O5). -/

namespace Sys2Proof.Machine

/-! ## The FIFO under a posting -/

/-- The state with other frames in the inbound FIFO. -/
def State.withFifo (s : State) (l : List Frame) : State := { s with ctl := { s.ctl with fifo := l } }

section Fifo

variable (l : List Frame)

theorem State.ite_withFifo (p : Prop) [Decidable p] (s t : State) :
    (if p then s.withFifo l else t.withFifo l) = (if p then s else t).withFifo l :=
  (apply_ite (State.withFifo · l) p s t).symm

theorem State.chooseFrame_withFifo (s : State) : (s.withFifo l).chooseFrame = s.chooseFrame.withFifo l := by
  have htransmitter : (s.withFifo l).ctl.transmitter = s.ctl.transmitter := rfl
  unfold chooseFrame
  rw [htransmitter]
  cases s.ctl.transmitter with
  | idle => simp only [← ite_withFifo]; rfl
  | sendingReply t => rfl
  | sendingBatch t => rfl

theorem State.formationTest_withFifo (s : State) : (s.withFifo l).formationTest = s.formationTest.withFifo l := by
  have hform : (s.withFifo l).formBatch = s.formBatch.withFifo l := rfl
  unfold formationTest
  rw [hform, chooseFrame_withFifo]
  exact ite_withFifo l _ _ _

theorem State.post_withFifo (s : State) (kind : NoticeKind) (car : Option CarId) (a b : BitVec 16) :
    (s.withFifo l).post kind car a b = (s.post kind car a b).withFifo l := by
  have hjoin (n : Notice) : (s.withFifo l).joinNotice n = (s.joinNotice n).withFifo l := rfl
  unfold post postNotice
  rw [hjoin, formationTest_withFifo]
  exact ite_withFifo l (s.ctl.notices.length < 32) _ { s with ctl := { s.ctl with lost := bump s.ctl.lost } }

theorem State.heardFrame_withFifo (s : State) : (s.withFifo l).heardFrame = s.heardFrame.withFifo l := by
  have hpost := State.post_withFifo l { s with mon := { s.mon with linkSilent := false } } .linkSilentEnd none
    (u16 s.silenceTimer) (u16 s.unit.settings.silenceReaction.code)
  have hsilent : (s.withFifo l).mon.linkSilent = s.mon.linkSilent := rfl
  unfold heardFrame
  rw [hsilent]
  split
  · exact congrArg (fun u : State => { u with mon := { u.mon with silenceFrom := u.now } }) hpost
  · rfl

end Fifo

/-! ## A request taken (R181, R182) -/

/-- The one frame of the FIFO is taken. -/
theorem State.serve_one {s : State} {f : Frame} (hfifo : s.ctl.fifo = [f]) (htake : s.canTake = true) :
    s.serve = (s.withFifo []).takeFrame f := by
  unfold serve
  rw [hfifo, List.length_singleton, serveFrames, hfifo]
  dsimp only
  rw [if_pos htake]
  rfl

theorem State.ready.canTake {s : State} (h : s.ready) : s.canTake = true := by
  obtain ⟨-, hreplies, hhold⟩ := h
  simp [State.canTake, hreplies, hhold]

theorem State.ready.heardFrame {s : State} (h : s.ready) : s.heardFrame.ready := by
  obtain ⟨hfifo, hreplies, hhold⟩ := h
  exact ⟨by simp [hfifo], by simpa using hreplies, by simp [hhold]⟩

/-- A valid frame at a module that is ready is taken once the Monitor has been told of it (log 11). -/
theorem State.ready.validFrame {s : State} (h : s.ready) (f : Frame) : s.validFrame f = s.heardFrame.takeFrame f := by
  have hjoin : s.joinFifo f = s.withFifo [f] := by
    unfold joinFifo withFifo
    rw [h.1, if_pos (by decide)]; rfl
  have hempty : s.heardFrame.withFifo [] = s.heardFrame := by
    have hfifo : s.heardFrame.ctl.fifo = [] := h.heardFrame.1
    unfold withFifo
    rw [← hfifo]
  have hone : (s.heardFrame.withFifo [f]).serve = (s.heardFrame.withFifo []).takeFrame f :=
    serve_one rfl h.heardFrame.canTake
  rw [State.validFrame, hjoin, heardFrame_withFifo, hone, hempty]

theorem encodeRequest_cases {c : Instr} {f : Frame} (he : encodeRequest c = some f) :
    c = .unknownRequest f.kind f.tag f.payload ∨ ∃ meaning, requestMeaning c = some meaning := by
  cases c <;> simp only [encodeRequest, reduceCtorEq, Option.some.injEq] at he <;> subst he
  case unknownRequest => exact .inl rfl
  all_goals exact .inr ⟨_, rfl⟩

/-- A request's command, at a module that is ready, takes the request's frame (log 5). -/
theorem exec_takes_frame {c : Instr} {f : Frame} (hw : c.wf = true) (he : encodeRequest c = some f) {s : State}
    (h : s.ready) : exec c s = .next (s.takeFrame f) := by
  rcases encodeRequest_cases he with rfl | ⟨⟨k, tag, m⟩, hm⟩
  · exact congrArg _ (if_pos ⟨h.1, h.canTake⟩)
  · rw [exec_ready hm h, State.takeFrame, decodeRequest_encodeRequest hw he]
    dsimp only
    rw [hm]
    dsimp only
    rw [answerRequest_replied]

/-- Settles O5: the receiver gathers the frame's bytes until its last, which hands the frame on, and the frame is read
as the request that it carries. -/
theorem receivedFrameCarriesItsRequest : Obligations.ReceivedFrameCarriesItsRequest := by
  intro dt c f s hw he hready hunting last
  have hstate : s.gathering last [] = { s with now := last, ctl := { s.ctl with rxLast := last } } := by
    rw [← hunting]; rfl
  have htold : (s.gathering last []).ready := hready
  have hreceived := exec_controlFrameReceived_frame (encodeRequest_payload_length hw he) hunting dt
  rw [htold.validFrame] at hreceived
  exact ⟨_, hreceived, hstate ▸ exec_takes_frame hw he htold.heardFrame⟩

end Sys2Proof.Machine
end

section
/-! SUPPORT. The soundness of the control link in its parts, and the postings, the choice of a frame and the forming
of a batch that keep them (R185 to R188). -/

namespace Sys2Proof.Machine

/-! ## The parts of the link's soundness -/

/-- The bounds of the control link, whatever the transmitter does and whether or not the FIFO has been tested. -/
structure ControlLink.Bounded (c : ControlLink) : Prop where
  notices : c.notices.length ≤ 32
  fifo : c.fifo.length ≤ 4
  replies : c.replies.length ≤ 4
  batch : ∀ b, c.slot = some b → 1 ≤ b.notices.length ∧ b.notices.length ≤ 8
  quiet : c.notices = [] → c.quiet = none ∧ c.absolute = none ∧ c.expiryMark = false
  restarting : c.hold = c.replies.any Reply.isRestart
  gathering : scan 0 c.rxBuffer = ([], c.rxBuffer) ∧ c.rxBuffer.length ≤ 125
  counts : c.crcErrors ≤ 65535 ∧ c.dropped ≤ 65535 ∧ c.lost ≤ 65535

/-- The transmitter sends what there is to send, and is idle only with nothing to send (R185). -/
structure ControlLink.LineSound (c : ControlLink) : Prop where
  idle : c.transmitter = .idle → c.replies = [] ∧ c.slot = none
  sendingReply : ∀ t, c.transmitter = .sendingReply t → c.replies ≠ []
  sendingBatch : ∀ t, c.transmitter = .sendingBatch t → c.slot ≠ none

/-- A frame waits in the FIFO only while four replies or the request hold keep it there (R182). -/
def ControlLink.Served (c : ControlLink) : Prop := c.fifo ≠ [] → c.replies.length = 4 ∨ c.hold = true

/-- A reception in progress on the actuator link holds one to nine bytes (R117). -/
def State.ReceptionSound (s : State) : Prop :=
  ∀ c opened q held, s.link.cycle = some c → c.phase = .receiving opened q held → 1 ≤ held.length ∧ held.length ≤ 9

theorem State.linkSound_iff (s : State) :
    s.LinkSound ↔ s.ctl.Bounded ∧ s.ctl.LineSound ∧ s.ctl.Served ∧ s.ReceptionSound := by
  constructor
  · intro h
    exact ⟨⟨h.notices, h.fifo, h.replies, h.batch, h.quiet, h.restarting, h.gathering, h.counts⟩,
      ⟨h.idle, h.sendingReply, h.sendingBatch⟩, h.waiting, h.reception⟩
  · rintro ⟨hb, hl, hs, hr⟩
    exact ⟨hb.notices, hb.fifo, hb.replies, hs, hl.idle, hl.sendingReply, hl.sendingBatch, hb.batch, hb.quiet,
      hb.restarting, hb.gathering, hb.counts, hr⟩

/-! ## The choice of a frame (R185) -/

theorem ControlLink.Bounded.setTransmitter {c : ControlLink} (h : c.Bounded) (x : Transmitter) :
    { c with transmitter := x }.Bounded :=
  ⟨h.notices, h.fifo, h.replies, h.batch, h.quiet, h.restarting, h.gathering, h.counts⟩

theorem State.chooseFrame_bounded {s : State} (h : s.ctl.Bounded) : s.chooseFrame.ctl.Bounded := by
  rw [chooseFrame_ctl]
  exact h.setTransmitter _

/-- The choice leaves the line sound when the frame being sent, if any, is there. -/
theorem State.chooseFrame_lineSound {s : State} (hr : ∀ t, s.ctl.transmitter = .sendingReply t → s.ctl.replies ≠ [])
    (hb : ∀ t, s.ctl.transmitter = .sendingBatch t → s.ctl.slot ≠ none) : s.chooseFrame.ctl.LineSound := by
  cases hx : s.ctl.transmitter with
  | idle =>
    have hnext := s.chooseFrame_transmitter hx
    by_cases hreplies : s.ctl.replies = []
    · by_cases hslot : s.ctl.slot = none
      · rw [if_neg (not_not.mpr hreplies), if_neg (not_not.mpr hslot)] at hnext
        exact ⟨fun _ => by simp [hreplies, hslot], by simp [hnext], by simp [hnext]⟩
      · rw [if_neg (not_not.mpr hreplies), if_pos hslot] at hnext
        exact ⟨by simp [hnext], by simp [hnext], fun _ _ => by simpa using hslot⟩
    · rw [if_pos hreplies] at hnext
      exact ⟨by simp [hnext], fun _ _ => by simpa using hreplies, by simp [hnext]⟩
  | sendingReply t =>
    rw [s.chooseFrame_busy (by simp [hx])]
    exact ⟨by simp [hx], hr, hb⟩
  | sendingBatch t =>
    rw [s.chooseFrame_busy (by simp [hx])]
    exact ⟨by simp [hx], hr, hb⟩

/-- A transmitter that becomes idle chooses among all there is to send. -/
theorem State.freeTransmitter_lineSound (s : State) : s.freeTransmitter.ctl.LineSound :=
  chooseFrame_lineSound nofun nofun

theorem State.freeTransmitter_bounded {s : State} (h : s.ctl.Bounded) : s.freeTransmitter.ctl.Bounded :=
  chooseFrame_bounded (h.setTransmitter _)

/-! ## Batches and postings (R186 to R188) -/

/-- A batch of one to eight notices leaves, and the timers run on only for the notices that remain. -/
theorem State.formBatch_bounded {s : State} (h : s.ctl.Bounded) (hne : s.ctl.notices ≠ []) :
    s.formBatch.ctl.Bounded where
  notices := by
    have := h.notices
    simp [formBatch]; omega
  fifo := h.fifo
  replies := h.replies
  batch b hb := by
    have hpos := List.length_pos_iff.mpr hne
    cases hb
    simp only [List.length_take]
    omega
  quiet hrest := by
    have hempty : (s.ctl.notices.drop 8).isEmpty = true := by simpa [formBatch] using hrest
    simp only [formBatch, hempty, if_true, and_self]
  restarting := h.restarting
  gathering := h.gathering
  counts := ⟨h.counts.1, h.counts.2.1, Nat.zero_le _⟩

theorem State.batchDue_notices {s : State} (h : s.batchDue = true) : s.ctl.notices ≠ [] := by
  simp only [batchDue, Bool.and_eq_true, Bool.not_eq_true', List.isEmpty_eq_false_iff] at h
  exact h.1

theorem State.formationTest_bounded {s : State} (h : s.ctl.Bounded) : s.formationTest.ctl.Bounded := by
  unfold formationTest
  split
  · next hdue =>
    rw [Bool.and_eq_true] at hdue
    exact chooseFrame_bounded (formBatch_bounded h (batchDue_notices hdue.1))
  · exact h

theorem State.formationTest_lineSound {s : State} (h : s.ctl.LineSound) : s.formationTest.ctl.LineSound := by
  unfold formationTest
  split
  · exact chooseFrame_lineSound (s := s.formBatch) h.sendingReply nofun
  · exact h

theorem State.joinNotice_bounded {s : State} (h : s.ctl.Bounded) (hroom : s.ctl.notices.length < 32) (n : Notice) :
    (s.joinNotice n).ctl.Bounded where
  notices := by simpa [joinNotice] using hroom
  fifo := h.fifo
  replies := h.replies
  batch := h.batch
  quiet hempty := by simp [joinNotice] at hempty
  restarting := h.restarting
  gathering := h.gathering
  counts := h.counts

theorem State.postNotice_bounded {s : State} (h : s.ctl.Bounded) (n : Notice) : (s.postNotice n).ctl.Bounded := by
  by_cases hroom : s.ctl.notices.length < 32
  · rw [postNotice, if_pos hroom]
    exact formationTest_bounded (joinNotice_bounded h hroom n)
  · rw [postNotice_full s n (by omega)]
    exact { h with counts := ⟨h.counts.1, h.counts.2.1, bump_le _⟩ }

theorem State.postNotice_lineSound {s : State} (h : s.ctl.LineSound) (n : Notice) :
    (s.postNotice n).ctl.LineSound := by
  unfold postNotice
  split
  · exact formationTest_lineSound (s := s.joinNotice n) ⟨h.idle, h.sendingReply, h.sendingBatch⟩
  · exact ⟨h.idle, h.sendingReply, h.sendingBatch⟩

/-! ## Replies (R182, R183, R185) -/

/-- A reply joins a queue with room; the request hold then tells of it too when it is the OK reply of a RESTART. -/
theorem State.pushReply_bounded {s : State} {held : Bool} (h : ControlLink.Bounded { s.ctl with hold := held })
    (hroom : s.ctl.replies.length < 4) {r : Reply} (hhold : s.ctl.hold = (held || r.isRestart)) :
    (s.pushReply r).ctl.Bounded := by
  have hjoined : ControlLink.Bounded { s.ctl with replies := s.ctl.replies ++ [r] } :=
    { notices := h.notices, fifo := h.fifo, batch := h.batch, quiet := h.quiet, gathering := h.gathering,
      counts := h.counts
      replies := by simpa using hroom
      restarting := by
        have hheld : held = s.ctl.replies.any Reply.isRestart := h.restarting
        simp [hhold, hheld] }
  exact chooseFrame_bounded hjoined

theorem State.pushReply_lineSound {s : State} (h : s.ctl.LineSound) (r : Reply) : (s.pushReply r).ctl.LineSound :=
  chooseFrame_lineSound (fun _ _ => by simp) h.sendingBatch

end Sys2Proof.Machine
end

section
/-! SUPPORT. What leaves the requests of the control link: postings, and whatever else of the links stays sound. -/

namespace Sys2Proof.Machine

/-! ## Links kept sound -/

/-- What is sound of the links in `s`, the test of the FIFO aside, is sound in `t`. -/
structure State.KeepsLink (s t : State) : Prop where
  bounded : s.ctl.Bounded → t.ctl.Bounded
  lineSound : s.ctl.LineSound → t.ctl.LineSound
  reception : s.ReceptionSound → t.ReceptionSound

/-- From `s` to `t` the links are kept sound, and the frames, the replies and the request hold are the same. -/
structure State.LeavesRequests (s t : State) : Prop extends s.KeepsLink t where
  fifo : t.ctl.fifo = s.ctl.fifo
  replies : t.ctl.replies = s.ctl.replies
  hold : t.ctl.hold = s.ctl.hold

section Leaves

variable {s t u : State}

theorem State.ReceptionSound.of_cycle (h : s.ReceptionSound) (e : t.link.cycle = s.link.cycle) : t.ReceptionSound := by
  intro c opened q held hc
  exact h c opened q held (e ▸ hc)

theorem State.NotReceiving.receptionSound (h : s.NotReceiving) : s.ReceptionSound :=
  fun c opened q held hc hp => absurd hp (h c opened q held hc)

theorem State.KeepsLink.trans (h₁ : s.KeepsLink t) (h₂ : t.KeepsLink u) : s.KeepsLink u :=
  ⟨h₂.bounded ∘ h₁.bounded, h₂.lineSound ∘ h₁.lineSound, h₂.reception ∘ h₁.reception⟩

theorem State.LeavesRequests.trans (h₁ : s.LeavesRequests t) (h₂ : t.LeavesRequests u) : s.LeavesRequests u :=
  ⟨h₁.toKeepsLink.trans h₂.toKeepsLink, h₂.fifo.trans h₁.fifo, h₂.replies.trans h₁.replies, h₂.hold.trans h₁.hold⟩

/-- A change outside the control link that leaves no more than one to nine bytes in a reception. -/
theorem State.LeavesRequests.of_reception (ctl : t.ctl = s.ctl) (reception : s.ReceptionSound → t.ReceptionSound) :
    s.LeavesRequests t :=
  ⟨⟨fun h => ctl ▸ h, fun h => ctl ▸ h, reception⟩, by rw [ctl], by rw [ctl], by rw [ctl]⟩

theorem State.LeavesRequests.of_eq (ctl : t.ctl = s.ctl) (cycle : t.link.cycle = s.link.cycle) : s.LeavesRequests t :=
  .of_reception ctl fun h => h.of_cycle cycle

theorem State.LeavesRequests.refl (s : State) : s.LeavesRequests s := .of_eq rfl rfl

/-- What leaves the requests, after a change outside the links. -/
theorem State.LeavesRequests.congr (h : t.LeavesRequests u) (ctl : t.ctl = s.ctl)
    (cycle : t.link.cycle = s.link.cycle) : s.LeavesRequests u :=
  .trans (.of_eq ctl cycle) h

/-- Turns that each leave the requests leave them together. -/
theorem State.LeavesRequests.of_foldl {α : Type} {f : State → α → State} (h : ∀ (s : State) i, s.LeavesRequests (f s i))
    (l : List α) (s : State) : s.LeavesRequests (l.foldl f s) :=
  foldl_keeps s.LeavesRequests f (fun _ i hs => hs.trans (h _ i)) l s (.refl s)

end Leaves

/-! ## Notices -/

theorem State.post_leavesRequests (s : State) (k : NoticeKind) (c : Option CarId) (a b : BitVec 16) :
    s.LeavesRequests (s.post k c a b) where
  bounded h := postNotice_bounded h _
  lineSound h := postNotice_lineSound h _
  reception h := h.of_cycle (by simp)
  fifo := by simp
  replies := by simp
  hold := by simp

/-! ## Changes of mode and of a car's state -/

theorem State.settle_leavesRequests (s : State) : s.LeavesRequests s.settle := by
  unfold settle
  split
  · exact .congr (post_leavesRequests _ _ _ _ _) rfl rfl
  · exact .refl s

theorem State.enter_leavesRequests (s : State) (i : CarId) (st : CarState) (c : CarCause) :
    s.LeavesRequests (s.enter i st c) :=
  .congr (post_leavesRequests _ _ _ _ _) rfl rfl

theorem State.transition_leavesRequests (s : State) (i : CarId) (st : CarState) (c : CarCause) :
    s.LeavesRequests (s.transition i st c) :=
  (s.enter_leavesRequests i st c).trans (settle_leavesRequests _)

theorem State.centreCar_leavesRequests (s : State) (c : CarCause) (i : CarId) :
    s.LeavesRequests (s.centreCar c i) := by
  unfold centreCar
  split
  · exact transition_leavesRequests _ _ _ _
  · exact .refl s

theorem State.centreAll_leavesRequests (s : State) (c : CarCause) : s.LeavesRequests (s.centreAll c) :=
  .of_foldl (fun s i => s.centreCar_leavesRequests c i) allCars s

theorem State.carCause_leavesRequests (s : State) (i : CarId) (c : LatchReason) (r : Reaction) :
    s.LeavesRequests (s.carCause i c r) := by
  have latched : ∀ (x : Option LatchReason) (st : CarState) (cause : CarCause),
      s.LeavesRequests ((s.setLatch i x).transition i st cause) :=
    fun _ _ _ => .congr (transition_leavesRequests _ _ _ _) rfl rfl
  unfold carCause
  split
  case h_1 => exact latched _ _ _
  case h_2 => exact s.transition_leavesRequests _ _ _
  case h_3 => exact latched _ _ _
  all_goals exact .of_eq rfl rfl

/-! ## The odometry and the route -/

theorem State.compareWindow_leavesRequests (s : State) (dA dB : Nat) : s.LeavesRequests (s.compareWindow dA dB) := by
  unfold compareWindow windowDisagrees windowAgrees
  dsimp only
  (repeat' split)
  case isFalse.isTrue.isFalse.isTrue => exact .congr (post_leavesRequests _ _ _ _ _) rfl rfl
  case isFalse.isFalse.isTrue.isTrue => exact .congr (post_leavesRequests _ _ _ _ _) rfl rfl
  all_goals exact .of_eq rfl rfl

theorem State.captureMarker_leavesRequests (s : State) : s.LeavesRequests s.captureMarker := by
  unfold captureMarker
  split
  · exact .congr (post_leavesRequests _ _ _ _ _) rfl rfl
  · exact .refl s

theorem State.markerSample_leavesRequests (s : State) (b : Bool) : s.LeavesRequests (s.markerSample b) := by
  unfold markerSample
  dsimp only
  split
  · exact .congr (captureMarker_leavesRequests _) rfl rfl
  · exact .of_eq rfl rfl

theorem State.lowWaterTest_leavesRequests (s : State) (p : Nat) : s.LeavesRequests (s.lowWaterTest p) := by
  unfold lowWaterTest
  dsimp only
  split
  · exact (s.post_leavesRequests _ _ _ _).trans (.of_eq rfl rfl)
  · exact .refl s

theorem State.exhaustedTest_leavesRequests (s : State) (p : Nat) : s.LeavesRequests (s.exhaustedTest p) := by
  unfold exhaustedTest
  dsimp only
  split
  · exact (s.post_leavesRequests _ _ _ _).trans (.of_eq rfl rfl)
  · exact .refl s

theorem State.evaluateLead_leavesRequests (s : State) (lead : Option Nat) : s.LeavesRequests (s.evaluateLead lead) := by
  unfold evaluateLead
  split
  · exact .refl s
  · split
    · exact .congr ((lowWaterTest_leavesRequests _ _).trans (exhaustedTest_leavesRequests _ _)) rfl rfl
    · exact .refl s

theorem State.raiseDoubt_leavesRequests (s : State) (i j : CarId) (d : Int) :
    s.LeavesRequests (s.raiseDoubt i j d) := by
  unfold raiseDoubt
  split
  · exact .refl s
  · exact .congr ((post_leavesRequests _ _ _ _ _).trans (centreAll_leavesRequests _ _)) rfl rfl

/-! ## The control frame -/

theorem State.takeLaw_leavesRequests (s : State) (i : CarId) : s.LeavesRequests (s.takeLaw i) :=
  .congr (post_leavesRequests _ _ _ _ _) rfl rfl

theorem State.frameLaw_leavesRequests (s : State) (i : CarId) : s.LeavesRequests (s.frameLaw i) := by
  unfold frameLaw
  split
  · exact s.takeLaw_leavesRequests i
  · exact .refl s

theorem State.drainCar_leavesRequests (s : State) (i : CarId) : s.LeavesRequests (s.drainCar i) := by
  unfold drainCar
  split
  · exact s.centreCar_leavesRequests _ i
  · exact .refl s

theorem State.stateTest_leavesRequests (s : State) (i : CarId) : s.LeavesRequests (s.stateTest i) := by
  unfold stateTest
  cases s.cars[i].state with
  | returning =>
    dsimp only
    split
    · exact s.transition_leavesRequests _ _ _
    · exact .refl s
  | centred =>
    dsimp only
    split
    · exact .congr (transition_leavesRequests _ _ _ _) rfl rfl
    · exact .refl s
  | tracking =>
    dsimp only
    split
    · exact s.drainCar_leavesRequests i
    · exact .refl s
  | offline | latched | isolated | probing => exact .refl s

theorem State.frameCar_leavesRequests (s : State) (v : Nat) (i : CarId) : s.LeavesRequests (s.frameCar v i) := by
  unfold frameCar computeCar
  dsimp only
  split
  · exact (s.frameLaw_leavesRequests i).trans (.congr (stateTest_leavesRequests _ _) (by simp) (by simp))
  · exact s.frameLaw_leavesRequests i

theorem frameCars_leavesRequests (v : Nat) (l : List CarId) (s : State) (lead : Option Nat) (car0 : Bool) :
    s.LeavesRequests (frameCars v l s lead car0).1 := by
  induction l generalizing s lead car0 with
  | nil => exact .refl s
  | cons i l ih => exact (s.frameCar_leavesRequests v i).trans (ih _ _ _)

/-! ## The Supervisor -/

theorem State.consult_leavesRequests (s : State) (i : CarId) (p : Nat) : s.LeavesRequests (s.consult i p) := by
  unfold consult
  split
  · exact s.raiseDoubt_leavesRequests _ _ _
  · split <;> exact .of_eq rfl rfl

theorem State.confirmMismatch_leavesRequests (s : State) (i : CarId) (p : Nat) (residual predicted : Int) :
    s.LeavesRequests (s.confirmMismatch i p residual predicted) := by
  unfold confirmMismatch
  extract_lets marked caused posted
  have hcaused : s.LeavesRequests caused := .congr (marked.carCause_leavesRequests _ _ _) rfl rfl
  exact hcaused.trans ((caused.post_leavesRequests _ _ _ _).trans (posted.consult_leavesRequests i p))

theorem State.testResidual_leavesRequests (s : State) (i : CarId) (p : Nat) (residual predicted : Int) :
    s.LeavesRequests (s.testResidual i p residual predicted) := by
  unfold testResidual
  dsimp only
  split
  · split
    · exact s.confirmMismatch_leavesRequests i p residual predicted
    · exact .of_eq rfl rfl
  · exact .of_eq rfl rfl

theorem State.superviseReply_leavesRequests (s : State) (i : CarId) (r : DriveReport) :
    s.LeavesRequests (s.superviseReply i r) := by
  unfold superviseReply
  split
  · split
    · exact .of_eq rfl rfl
    · exact s.testResidual_leavesRequests i _ _ _
  · exact .of_eq rfl rfl

/-! ## The outcome of a transaction (R119) -/

theorem State.followFault_leavesRequests (s : State) (i : CarId) (st : Byte) (code previous : Nat) :
    s.LeavesRequests (s.followFault i st code previous) := by
  unfold followFault
  (repeat' split)
  case isTrue.isTrue.isTrue => exact s.post_leavesRequests _ _ _ _
  case isTrue.isFalse =>
    exact .congr ((carCause_leavesRequests _ _ _ _).trans (post_leavesRequests _ _ _ _ _)) rfl rfl
  case isFalse.isTrue => exact .congr (post_leavesRequests _ _ _ _ _) rfl rfl
  all_goals exact .refl s

theorem State.countProbe_leavesRequests (s : State) (i : CarId) (st : Byte) (tilt : Int) :
    s.LeavesRequests (s.countProbe i st tilt) := by
  unfold countProbe
  dsimp only
  (repeat' split)
  case isTrue.isTrue => exact .congr (transition_leavesRequests _ _ _ _) rfl rfl
  all_goals exact .of_eq rfl rfl

theorem State.applyGood_leavesRequests (s : State) (i : CarId) (st : Byte) (r : DriveReport) :
    s.LeavesRequests (s.applyGood i st r) := by
  unfold applyGood
  extract_lets probing previous healed drive stored followed supervised
  have hfollowed : s.LeavesRequests followed := .congr (stored.followFault_leavesRequests _ _ _ _) rfl rfl
  have hsupervised : s.LeavesRequests supervised := by
    simp only [supervised]
    split
    · exact hfollowed.trans (followed.superviseReply_leavesRequests i r)
    · exact hfollowed
  split
  · exact hsupervised.trans (supervised.countProbe_leavesRequests _ _ _)
  · exact hsupervised

/-- A car enters ISOLATED with its ISOLATED notice and the completion test (R100, R123, R127). -/
theorem State.enterIsolated_leavesRequests (s : State) (i : CarId) (cause : CarCause) (probe corrupt : Bool) :
    s.LeavesRequests ((s.enter i .isolated cause).postIsolated i probe corrupt).settle :=
  (s.enter_leavesRequests _ _ _).trans ((post_leavesRequests _ _ _ _ _).trans (settle_leavesRequests _))

theorem State.failReply_leavesRequests (s : State) (i : CarId) (corrupt : Bool) :
    s.LeavesRequests (s.failReply i corrupt) := by
  unfold failReply isolate
  dsimp only
  (repeat' split)
  · exact .congr (enterIsolated_leavesRequests _ _ _ _ _) rfl rfl
  · exact .congr (post_leavesRequests _ _ _ _ _) rfl rfl
  · exact .of_eq rfl rfl

theorem State.failProbe_leavesRequests (s : State) (i : CarId) (corrupt : Bool) :
    s.LeavesRequests (s.failProbe i corrupt) :=
  .congr (enterIsolated_leavesRequests _ _ _ _ _) rfl rfl

theorem State.applyOutcome_leavesRequests (s : State) (i : CarId) (o : TransactionEnd) :
    s.LeavesRequests (s.applyOutcome i o) := by
  have failed : ∀ corrupt, s.LeavesRequests
      (if s.cars[i].state = .probing then s.failProbe i corrupt else s.failReply i corrupt) := by
    intro corrupt
    split
    · exact s.failProbe_leavesRequests i corrupt
    · exact s.failReply_leavesRequests i corrupt
  unfold applyOutcome
  split
  · cases o with
    | good st r => exact s.applyGood_leavesRequests i st r
    | corrupt => exact failed true
    | miss => exact failed false
  · exact .refl s

/-- A turn that has just come waits for an idle line, so no reception is in progress (R115). -/
theorem State.notReceiving_of_turn {s t : State} {cars toCome : List CarId}
    (h : t.link.cycle = s.openTurn cars toCome) : t.NotReceiving := by
  intro c opened q held hc hp
  rw [openTurn_waiting (h ▸ hc)] at hp
  cases hp

theorem State.startCycle_leavesRequests (s : State) : s.LeavesRequests s.startCycle :=
  .of_reception rfl fun _ => (notReceiving_of_turn (s := s) rfl).receptionSound

theorem State.endTransaction_leavesRequests (s : State) (c : PollCycle) : s.LeavesRequests (s.endTransaction c) := by
  refine .of_reception (by simp) fun _ => NotReceiving.receptionSound ?_
  unfold endTransaction
  split
  · next hturn => exact notReceiving_of_turn hturn.symm
  · split
    · exact notReceiving_of_turn rfl
    · exact fun _ _ _ _ hnone => nomatch hnone

theorem State.finish_leavesRequests (s : State) (c : PollCycle) (o : TransactionEnd) :
    s.LeavesRequests (s.finish c o) :=
  (s.applyOutcome_leavesRequests c.current o).trans (endTransaction_leavesRequests _ c)

end Sys2Proof.Machine
end

section
/-! SUPPORT. The commands that leave the requests of the control link: those of the actuator link, the odometry, the
conditions and the control frame (R117, R186). -/

namespace Sys2Proof.Machine

/-! ## Bytes on the actuator link (R117) -/

theorem State.setPhase_leavesRequests (s : State) (c : PollCycle) (p : Phase)
    (h : ∀ opened q held, p = .receiving opened q held → 1 ≤ held.length ∧ held.length ≤ 9) :
    s.LeavesRequests (s.setPhase c p) := by
  refine .of_reception rfl fun _ next opened q held hnext hp => ?_
  obtain rfl : { c with phase := p } = next := Option.some.inj hnext
  exact h opened q held hp

/-- A reception that holds its tenth byte ends (R117). -/
theorem State.takeByte_leavesRequests (s : State) (c : PollCycle) (opened : Nat) (q : Byte) {held : List RxByte}
    (hne : held ≠ []) : s.LeavesRequests (s.takeByte c opened q held) := by
  unfold takeByte
  split
  · next hmore =>
    refine s.setPhase_leavesRequests c _ fun _ _ _ e => ?_
    cases e
    exact ⟨List.length_pos_iff.mpr hne, Nat.le_of_lt_succ hmore⟩
  · exact s.finish_leavesRequests _ _

theorem State.hearByte_leavesRequests (s : State) (b : RxByte) : s.LeavesRequests (s.hearByte b) := by
  have taken : ∀ (c : PollCycle) opened q (held : List RxByte), held ≠ [] →
      s.LeavesRequests (s.holdLine.takeByte c opened q held) :=
    fun c opened q _ hne => .congr (s.holdLine.takeByte_leavesRequests c opened q hne) rfl rfl
  have kept : s.LeavesRequests s.holdLine := .of_eq rfl rfl
  unfold hearByte
  split
  · split
    · split
      · exact taken _ _ _ _ (by simp)
      · exact kept
    · exact taken _ _ _ _ (by simp)
    · exact kept
    · exact .refl s
  · exact kept

theorem State.endIdle_leavesRequests (s : State) (limit : Nat) : s.LeavesRequests (s.endIdle limit) := by
  unfold endIdle
  dsimp only
  (repeat' split)
  case h_1.isTrue => exact .congr (finish_leavesRequests _ _ _) rfl rfl
  all_goals exact .refl s

theorem State.byteAfter_leavesRequests (s : State) (wait : Nat) (b : RxByte) :
    s.LeavesRequests (s.byteAfter wait b) :=
  (s.endIdle_leavesRequests _).trans (.congr (hearByte_leavesRequests _ b) rfl rfl)

theorem State.hearRun_leavesRequests (s : State) (l : List RxByte) : s.LeavesRequests (s.hearRun l) := by
  induction l generalizing s with
  | nil => exact .refl s
  | cons b l ih => exact (s.byteAfter_leavesRequests _ b).trans (ih _)

/-! ## The commands -/

section Commands

variable {s t : State}

theorem execTachoPulse_leavesRequests {dt held : Nat} {ch : Tacho} {fell : Bool}
    (he : execTachoPulse dt ch fell held s = .next t) : s.LeavesRequests t := by
  injection he with he; subst he
  (repeat' split) <;> exact .of_eq (by simp) (by simp)

theorem execTachoStall_leavesRequests {ch : Tacho} (he : execTachoStall ch s = .next t) : s.LeavesRequests t := by
  injection he with he; subst he
  split <;> exact .of_eq (by simp) (by simp)

theorem execComparisonWindow_leavesRequests (he : execComparisonWindow s = .next t) : s.LeavesRequests t := by
  injection he with he; subst he
  exact .congr (State.compareWindow_leavesRequests _ _ _) rfl rfl

theorem execMarkerPulse_leavesRequests {dt : Nat} {l : List Bool} (he : execMarkerPulse dt l s = .next t) :
    s.LeavesRequests t := by
  injection he with he; subst he
  exact .congr (.of_foldl State.markerSample_leavesRequests l _) rfl rfl

theorem execInhibitSet_leavesRequests {dt n : Nat} (he : execInhibitSet dt n s = .next t) : s.LeavesRequests t := by
  injection he with he; subst he
  split
  · exact .congr ((State.post_leavesRequests _ _ _ _ _).trans (State.centreAll_leavesRequests _ _)) rfl rfl
  · exact .of_eq rfl rfl

theorem execInhibitClear_leavesRequests {dt n : Nat} (he : execInhibitClear dt n s = .next t) :
    s.LeavesRequests t := by
  injection he with he; subst he
  split
  · exact .congr (State.post_leavesRequests _ _ _ _ _) rfl rfl
  · exact .of_eq rfl rfl

theorem execClockWindow_leavesRequests {dt n : Nat} (he : execClockWindow dt n s = .next t) : s.LeavesRequests t := by
  injection he with he; subst he
  split
  · exact .congr (State.post_leavesRequests _ _ _ _ _) rfl rfl
  · exact .of_eq rfl rfl

theorem execLinkSilentOnset_leavesRequests (he : execLinkSilentOnset s = .next t) : s.LeavesRequests t := by
  injection he with he; subst he
  dsimp only
  split
  · split
    · exact .congr (State.centreAll_leavesRequests _ _) rfl rfl
    · exact .of_eq rfl rfl
  · exact .refl s

theorem execControlFrame_leavesRequests (he : execControlFrame s = .next t) : s.LeavesRequests t := by
  injection he with he; subst he
  have ended : ∀ (u : State) lead, u.LeavesRequests (u.evaluateLead lead).settle :=
    fun u lead => (u.evaluateLead_leavesRequests lead).trans (State.settle_leavesRequests _)
  exact State.LeavesRequests.congr (.trans (frameCars_leavesRequests _ _ _ _ _) (ended _ _)) rfl rfl

theorem execPollCycleExpiry_leavesRequests (he : execPollCycleExpiry s = .next t) : s.LeavesRequests t := by
  injection he with he; subst he
  split
  · exact .congr (State.startCycle_leavesRequests _) rfl rfl
  · exact .of_eq rfl rfl

theorem execSetpointSend_leavesRequests {n : Nat} (he : execSetpointSend n s = .next t) : s.LeavesRequests t := by
  injection he with he; subst he
  dsimp only
  (repeat' split)
  case h_1.isTrue => exact .congr (State.setPhase_leavesRequests _ _ _ nofun) rfl rfl
  all_goals exact .refl s

theorem execSetpointSent_leavesRequests (he : execSetpointSent s = .next t) : s.LeavesRequests t := by
  injection he with he; subst he
  dsimp only
  (repeat' split)
  case h_1 => exact .congr (State.setPhase_leavesRequests _ _ _ nofun) rfl rfl
  all_goals exact .refl s

theorem execTurnWaitLimit_leavesRequests (he : execTurnWaitLimit s = .next t) : s.LeavesRequests t := by
  injection he with he; subst he
  (repeat' split)
  case h_1.isFalse => exact .congr (State.finish_leavesRequests _ _ _) rfl rfl
  all_goals exact .refl s

theorem execReplyWindowClose_leavesRequests (he : execReplyWindowClose s = .next t) : s.LeavesRequests t := by
  injection he with he; subst he
  (repeat' split)
  case h_1 => exact .congr (State.finish_leavesRequests _ _ _) rfl rfl
  all_goals exact .of_eq rfl rfl

theorem execStatusReception_leavesRequests {dt : Nat} {bytes : List RxByte}
    (he : execStatusReception dt bytes s = .next t) : s.LeavesRequests t := by
  injection he with he; subst he
  cases bytes with
  | nil => exact .congr (State.endIdle_leavesRequests _ _) rfl rfl
  | cons first more => exact (State.byteAfter_leavesRequests _ _ _).trans (State.hearRun_leavesRequests _ _)

end Commands

end Sys2Proof.Machine
end

section
/-! SUPPORT. Requests and the FIFO: each request taken leaves its one reply, and the test of the FIFO leaves no frame
that could be taken (R181 to R183). -/

namespace Sys2Proof.Machine

/-! ## What a request does before its reply -/

theorem State.stageCar_leavesRequests (s : State) (i : CarId) : s.LeavesRequests (s.stageCar i) := by
  unfold stageCar
  dsimp only
  split
  · split
    · exact .of_eq rfl rfl
    · exact s.takeLaw_leavesRequests i
  · exact .refl s

theorem State.release_leavesRequests (s : State) (i : CarId) : s.LeavesRequests (s.release i) :=
  .congr (transition_leavesRequests _ _ _ _) rfl rfl

theorem releaseCars_leavesRequests (l : List CarId) (s : State) (n : Nat) :
    s.LeavesRequests (releaseCars l s n).1 := by
  induction l generalizing s n with
  | nil => exact .refl s
  | cons i l ih =>
    unfold releaseCars
    split
    · exact (s.release_leavesRequests i).trans (ih _ _)
    · exact ih _ _

theorem State.recount_leavesRequests (s : State) (i : CarId) : s.LeavesRequests (s.recount i) := by
  have moved : ∀ c st, s.LeavesRequests ((s.setCar i c).transition i st .configure) :=
    fun _ _ => .congr (transition_leavesRequests _ _ _ _) rfl rfl
  unfold recount
  split
  · split
    · exact moved _ _
    · exact .refl s
  · split
    · exact .refl s
    · exact moved _ _

/-- A turn that is passed over leaves none that receives; else the phase stays (R126, R171). -/
theorem State.leaveToNextCycle_leavesRequests (s : State) (joins : CarId → Bool) :
    s.LeavesRequests (s.leaveToNextCycle joins) := by
  unfold leaveToNextCycle
  split
  · exact .refl s
  · next c hc =>
    have running : s.LeavesRequests
        { s with link := { s.link with cycle := some { c with toCome := c.toCome.filter fun i => !joins i } } } := by
      refine .of_reception rfl fun h next opened q held hnext hp => ?_
      cases hnext
      exact h c opened q held hc hp
    dsimp only
    split
    · split
      · exact s.endTransaction_leavesRequests _
      · exact running
    all_goals exact running

theorem requestConfigureTrain_leavesRequests (p : TrainPayload) (s : State) :
    s.LeavesRequests (requestConfigureTrain p s).state := by
  unfold requestConfigureTrain
  split
  · exact .refl s
  · split
    · exact .refl s
    · have recounted := State.LeavesRequests.of_foldl State.recount_leavesRequests allCars
        { s with unit := { s.unit with settings := trainSettings p } }
      have forgotten : ∀ (l : List CarId) (u : State), u.LeavesRequests (l.foldl State.forgetCar u) :=
        State.LeavesRequests.of_foldl fun _ _ => .of_eq rfl rfl
      rw [Answer.done_state]
      exact State.LeavesRequests.congr
        (recounted.trans ((forgotten _ _).trans (State.leaveToNextCycle_leavesRequests _ _))) rfl rfl

theorem requestPositionFix_leavesRequests (n : Byte) (x : BitVec 32) (s : State) :
    s.LeavesRequests (requestPositionFix n x s).state := by
  cases hf : findCapture n s.odo.captures with
  | none => rw [requestPositionFix_missing hf]; exact .refl s
  | some found =>
    obtain ⟨captured, newer⟩ := found
    rw [requestPositionFix_found hf, Answer.done_state]
    generalize (x.toNat - captured : Int) = c
    have reported : s.LeavesRequests (s.fixReported c newer) :=
      .congr (State.post_leavesRequests _ _ _ _ _) (by simp [State.fixMoved]) (by simp [State.fixMoved])
    unfold State.fixApplied
    split
    · exact reported.trans (State.centreAll_leavesRequests _ _)
    · exact reported

/-- Every request but RESTART leaves the replies and the hold as they were until its own reply. -/
theorem request_leavesRequests {c : Instr} {k tag : Byte} {m : State → Answer}
    (hm : requestMeaning c = some (k, tag, m)) (hc : ∀ g, c ≠ .restart g) (s : State) :
    s.LeavesRequests (m s).state := by
  cases c <;> simp only [requestMeaning, reduceCtorEq, Option.some.injEq, Prod.mk.injEq] at hm <;>
    obtain ⟨-, -, rfl⟩ := hm
  case configureTrain g p => exact requestConfigureTrain_leavesRequests p s
  case setTiltLaw g p =>
    unfold requestSetTiltLaw
    split
    · exact .refl s
    · have staged := State.LeavesRequests.of_foldl State.stageCar_leavesRequests allCars
      rw [Answer.done_state]
      exact (staged _).congr rfl rfl
  case setTrainSet g p =>
    unfold requestSetTrainSet
    split
    · exact .refl s
    · rw [Answer.done_state]; split <;> exact .of_eq rfl rfl
  case setModeRun g =>
    unfold requestSetModeRun
    (repeat' split)
    case h_1.isFalse.isTrue => exact .congr (State.post_leavesRequests _ _ _ _ _) rfl rfl
    all_goals exact .refl s
  case setModeConfig g =>
    unfold requestSetModeConfig
    split
    · have drained := State.LeavesRequests.of_foldl State.drainCar_leavesRequests allCars (s.changeMode .draining)
      have changed : s.LeavesRequests (s.changeMode .draining) := .congr (State.post_leavesRequests _ _ _ _ _) rfl rfl
      rw [Answer.done_state]
      exact (changed.trans drained).trans (State.settle_leavesRequests _)
    · exact .refl s
    · exact .refl s
  case setPosition g x =>
    unfold requestSetPosition
    (repeat' split) <;> exact .of_eq (by simp) (by simp)
  case positionFix g n x => exact requestPositionFix_leavesRequests n x s
  case routeAppend g a rs =>
    unfold requestRouteAppend
    (repeat' split) <;> exact .of_eq (by simp [State.append]) (by simp [State.append])
  case routeTruncate g x =>
    unfold requestRouteTruncate
    (repeat' split) <;> exact .of_eq rfl rfl
  case routeConfirm g =>
    unfold requestRouteConfirm
    split <;> exact .of_eq rfl rfl
  case resume g x =>
    unfold requestResume
    (repeat' split)
    case isTrue => exact releaseCars_leavesRequests _ _ _
    case h_2.isFalse.isFalse => exact s.release_leavesRequests _
    all_goals exact .refl s
  case resumeAll g => exact releaseCars_leavesRequests _ _ _
  case readmit g x =>
    unfold requestReadmit
    split
    · exact .refl s
    · split
      · exact .refl s
      · extract_lets healed drive probing
        have started : s.LeavesRequests probing := .congr (State.transition_leavesRequests _ _ _ _) rfl rfl
        rw [Answer.done_state]
        exact started.trans (State.leaveToNextCycle_leavesRequests _ _)
  case queryCar g x => unfold requestQueryCar; split <;> exact .refl s
  case queryRoute g x => unfold requestQueryRoute; split <;> exact .refl s
  case restart g => exact absurd rfl (hc g)
  case identify | routeClear | queryTrain => exact .of_eq rfl rfl

/-! ## A request taken (R182, R183) -/

section Taken

variable {s t : State}

theorem State.canTake_iff (s : State) : s.canTake = true ↔ s.ctl.replies.length < 4 ∧ s.ctl.hold = false := by
  simp [canTake]

/-- An answer that is no OK reply of a RESTART keeps the links sound. -/
theorem State.LeavesRequests.answer {k tag : Byte} {a : Answer} (h : s.LeavesRequests a.state) (hs : s.canTake = true)
    (hr : Reply.isRestart ⟨replyKind k, tag, a.status, a.data⟩ = false) : s.KeepsLink (answerRequest k tag a) where
  bounded hb := by
    obtain ⟨hroom, -⟩ := s.canTake_iff.mp hs
    exact State.pushReply_bounded (held := a.state.ctl.hold) (h.bounded hb) (by rw [h.replies]; exact hroom)
      (by simp [hr])
  lineSound hl := State.pushReply_lineSound (h.lineSound hl) _
  reception hrec := (h.reception hrec).of_cycle (by simp)

theorem State.refuse_keepsLink (hs : s.canTake = true) (k tag : Byte) {st : Status} (hst : st ≠ .ok)
    (data : List Byte) : s.KeepsLink (answerRequest k tag (.refuse s st data)) :=
  (State.LeavesRequests.refl s).answer hs (by simp [Reply.isRestart, hst, Answer.refuse])

/-- The request hold is set together with the OK reply of a RESTART (R174). -/
theorem State.restart_keepsLink (hs : s.canTake = true) (tag : Byte) :
    s.KeepsLink (answerRequest 0x11 tag (requestRestart s)) := by
  unfold requestRestart
  split
  · exact State.refuse_keepsLink hs _ _ (by decide) _
  · let held : State := { s with ctl := { s.ctl with hold := true } }
    let r : Reply := ⟨replyKind 0x11, tag, .ok, []⟩
    have hr : r.isRestart = true := rfl
    have hpush : s.KeepsLink (held.pushReply r) :=
      ⟨fun hb => held.pushReply_bounded (held := s.ctl.hold) hb (s.canTake_iff.mp hs).1 (by rw [hr, Bool.or_true]),
        fun hl => held.pushReply_lineSound ⟨hl.idle, hl.sendingReply, hl.sendingBatch⟩ r,
        fun hrec => hrec.of_cycle (by simp [held])⟩
    exact hpush

/-- The KIND of a RESTART's reply is that of no other request's (Table 11-2). -/
theorem request_notRestart {c : Instr} {k tag : Byte} {m : State → Answer}
    (hm : requestMeaning c = some (k, tag, m)) (hc : ∀ g, c ≠ .restart g) (st : Status) (data : List Byte) :
    Reply.isRestart ⟨replyKind k, tag, st, data⟩ = false := by
  have other : (replyKind k == 0x91) = false → Reply.isRestart ⟨replyKind k, tag, st, data⟩ = false := fun h => by
    simp only [Reply.isRestart, h, Bool.false_and]
  cases c <;> simp only [requestMeaning, reduceCtorEq, Option.some.injEq, Prod.mk.injEq] at hm <;>
    obtain ⟨rfl, -, -⟩ := hm
  case restart g => exact absurd rfl (hc g)
  all_goals exact other rfl

theorem request_keepsLink {c : Instr} {k tag : Byte} {m : State → Answer}
    (hm : requestMeaning c = some (k, tag, m)) (hs : s.canTake = true) : s.KeepsLink (answerRequest k tag (m s)) := by
  by_cases hc : ∃ g, c = .restart g
  · obtain ⟨g, rfl⟩ := hc
    cases hm
    exact s.restart_keepsLink hs _
  · have hc : ∀ g, c ≠ .restart g := fun g e => hc ⟨g, e⟩
    exact (request_leavesRequests hm hc s).answer hs (request_notRestart hm hc _ _)

theorem request_fifo {c : Instr} {k tag : Byte} {m : State → Answer} (hm : requestMeaning c = some (k, tag, m)) :
    (answerRequest k tag (m s)).ctl.fifo = s.ctl.fifo := by
  have answered : (answerRequest k tag (m s)).ctl.fifo = (m s).state.ctl.fifo := by simp [answerRequest]
  rw [answered]
  by_cases hc : ∃ g, c = .restart g
  · obtain ⟨g, rfl⟩ := hc
    cases hm
    unfold requestRestart
    split <;> rfl
  · exact (request_leavesRequests hm (fun g e => hc ⟨g, e⟩) s).fifo

theorem State.takeFrame_keepsLink (hs : s.canTake = true) (f : Frame) : s.KeepsLink (s.takeFrame f) := by
  unfold takeFrame
  split
  · exact State.refuse_keepsLink hs _ _ (by decide) _
  · exact State.refuse_keepsLink hs _ _ (by decide) _
  · split
    · next hm => exact request_keepsLink hm hs
    · exact State.refuse_keepsLink hs _ _ (by decide) _

theorem State.takeFrame_fifo (s : State) (f : Frame) : (s.takeFrame f).ctl.fifo = s.ctl.fifo := by
  have refused : ∀ st, (answerRequest f.kind f.tag (.refuse s st)).ctl.fifo = s.ctl.fifo := fun _ => by
    simp [answerRequest, Answer.refuse]
  unfold takeFrame
  split
  · exact refused _
  · exact refused _
  · split
    · next hm => exact request_fifo hm
    · exact refused _

/-! ## The FIFO (R181, R182) -/

theorem ControlLink.Served.of_empty {c : ControlLink} (h : c.fifo = []) : c.Served := fun hne => absurd h hne

/-- With no reply slot free or the hold set, the frames wait. -/
theorem State.served_of_not_canTake (hb : s.ctl.Bounded) (hs : s.canTake = false) : s.ctl.Served := by
  intro _
  have hle := hb.replies
  by_cases hroom : s.ctl.replies.length < 4
  · exact .inr (by simpa [canTake, hroom] using hs)
  · exact .inl (by omega)

/-- The oldest frame leaves the FIFO. -/
theorem State.popFifo_keepsLink {f : Frame} {rest : List Frame} (h : s.ctl.fifo = f :: rest) :
    s.KeepsLink { s with ctl := { s.ctl with fifo := rest } } where
  bounded hb :=
    { hb with
      fifo := by
        have hle := hb.fifo
        rw [h, List.length_cons] at hle
        exact Nat.le_of_succ_le hle }
  lineSound hl := ⟨hl.idle, hl.sendingReply, hl.sendingBatch⟩
  reception hrec := hrec

/-- The test of the FIFO takes frames until none is left or none can be taken. -/
theorem serveFrames_keepsLink (n : Nat) (s : State) (hn : s.ctl.fifo.length ≤ n) :
    s.KeepsLink (serveFrames n s) ∧ (s.ctl.Bounded → (serveFrames n s).ctl.Served) := by
  have rest : s.KeepsLink s := ⟨id, id, id⟩
  induction n generalizing s with
  | zero => exact ⟨rest, fun _ => .of_empty (List.length_eq_zero_iff.mp (Nat.le_zero.mp hn))⟩
  | succ n ih =>
    unfold serveFrames
    split
    · next hempty => exact ⟨rest, fun _ => .of_empty hempty⟩
    · next f more hfifo =>
      split
      · next hs =>
        let popped : State := { s with ctl := { s.ctl with fifo := more } }
        have taken : s.KeepsLink (popped.takeFrame f) :=
          (s.popFifo_keepsLink hfifo).trans (popped.takeFrame_keepsLink hs f)
        have hmore : (popped.takeFrame f).ctl.fifo.length ≤ n := by
          rw [hfifo, List.length_cons] at hn
          rw [popped.takeFrame_fifo]
          exact Nat.le_of_succ_le_succ hn
        obtain ⟨hkeeps, hserved⟩ := ih _ hmore ⟨id, id, id⟩
        exact ⟨taken.trans hkeeps, hserved ∘ taken.bounded⟩
      · next hs => exact ⟨rest, fun hb => s.served_of_not_canTake hb (by simpa using hs)⟩

theorem State.serve_keepsLink (s : State) : s.KeepsLink s.serve := (serveFrames_keepsLink _ s (Nat.le_refl _)).1

theorem State.serve_served (hb : s.ctl.Bounded) : s.serve.ctl.Served :=
  (serveFrames_keepsLink _ s (Nat.le_refl _)).2 hb

/-- A frame joins the FIFO, or is dropped with its notice (R181). -/
theorem State.joinFifo_keepsLink (s : State) (f : Frame) : s.KeepsLink (s.joinFifo f) := by
  unfold joinFifo
  split
  · next hroom =>
    exact ⟨fun hb => { hb with fifo := by simpa using hroom },
      fun hl => ⟨hl.idle, hl.sendingReply, hl.sendingBatch⟩, id⟩
  · have counted : s.KeepsLink { s with ctl := { s.ctl with dropped := bump s.ctl.dropped } } :=
      ⟨fun hb => { hb with counts := ⟨hb.counts.1, bump_le _, hb.counts.2.2⟩ },
        fun hl => ⟨hl.idle, hl.sendingReply, hl.sendingBatch⟩, id⟩
    exact counted.trans (post_leavesRequests _ _ _ _ _).toKeepsLink

end Taken

end Sys2Proof.Machine
end

section
/-! SUPPORT. The soundness of the links, kept by the receiver, the requests, the transmitter, the timers and the two
starts, and so by every step (O59). -/

namespace Sys2Proof.Machine

/-! ## The receiver (R179, R180) -/

/-- What the receiver keeps of the bytes it examines is the beginning of a frame, of at most 125 bytes: examined again
it is kept again and nothing is found. -/
theorem scan_rest (skip : Nat) (l : List Byte) :
    scan 0 (scan skip l).2 = ([], (scan skip l).2) ∧ (scan skip l).2.length ≤ 125 := by
  fun_induction scan skip l with
  | case1 => exact ⟨rfl, Nat.zero_le _⟩
  | case2 skip b rest ih => exact ih
  | case3 b rest hb ih => exact ih
  | case4 b hb =>
    rw [not_not] at hb
    subst hb
    exact ⟨rfl, by decide⟩
  | case5 b hb len more hlen r ih => exact ih
  | case6 b hb len more hlen hmore =>
    refine ⟨?_, ?_⟩
    · rw [scan, if_neg hb]
      dsimp only
      rw [if_neg hlen, if_pos hmore]
    · simp only [List.length_cons] at hmore ⊢
      omega
  | case7 b hb len more hlen hmore f hframe r ih => exact ih
  | case8 b hb len more hlen hmore hdamaged r ih => exact ih

section Sound

variable {s t : State}

/-- What the receiver makes of its own items leaves the requests. -/
theorem State.LeavesRequests.of_receiver {bytes : List Byte} (hbytes : scan 0 bytes = ([], bytes) ∧ bytes.length ≤ 125)
    {errors : Nat} (herrors : s.ctl.crcErrors ≤ 65535 → errors ≤ 65535) (now last : Nat) :
    s.LeavesRequests { s with
      now := now, ctl := { s.ctl with rxBuffer := bytes, rxLast := last, crcErrors := errors } } where
  bounded hb := { hb with gathering := hbytes, counts := ⟨herrors hb.counts.1, hb.counts.2⟩ }
  lineSound hl := ⟨hl.idle, hl.sendingReply, hl.sendingBatch⟩
  reception hrec := hrec
  fifo := rfl
  replies := rfl
  hold := rfl

theorem State.closeGap_leavesRequests (s : State) : s.LeavesRequests s.closeGap := by
  unfold closeGap
  split
  · exact .of_receiver ⟨rfl, Nat.zero_le _⟩ (fun _ => bump_le _) s.now s.ctl.rxLast
  · exact .refl s

theorem State.heardFrame_leavesRequests (s : State) : s.LeavesRequests s.heardFrame := by
  unfold heardFrame
  dsimp only
  split
  · exact .congr ((post_leavesRequests _ _ _ _ _).trans (.of_eq rfl rfl)) rfl rfl
  · exact .of_eq rfl rfl

/-! ## The whole soundness -/

theorem ControlLink.Served.congr {c d : ControlLink} (h : c.Served) (fifo : d.fifo = c.fifo)
    (replies : d.replies = c.replies) (hold : d.hold = c.hold) : d.Served := by
  unfold Served
  rw [fifo, replies, hold]
  exact h

/-- An event that keeps the links sound keeps the whole when it leaves the FIFO tested. -/
theorem State.LinkSound.keeps (h : s.LinkSound) (hk : s.KeepsLink t)
    (hs : s.ctl.Served → t.ctl.Bounded → t.ctl.Served) : t.LinkSound := by
  obtain ⟨hb, hl, hserved, hrec⟩ := s.linkSound_iff.mp h
  exact t.linkSound_iff.mpr ⟨hk.bounded hb, hk.lineSound hl, hs hserved (hk.bounded hb), hk.reception hrec⟩

theorem State.LinkSound.leaves (h : s.LinkSound) (hl : s.LeavesRequests t) : t.LinkSound :=
  h.keeps hl.toKeepsLink fun hserved _ => hserved.congr hl.fifo hl.replies hl.hold

/-- Whatever keeps the links sound may come before the test of the FIFO (R182). -/
theorem State.LinkSound.serve (h : s.LinkSound) (hk : s.KeepsLink t) : t.serve.LinkSound := by
  obtain ⟨hb, -⟩ := s.linkSound_iff.mp h
  exact h.keeps (hk.trans t.serve_keepsLink) fun _ _ => t.serve_served (hk.bounded hb)

/-- What the test of the FIFO has left, the line being free again (R182, R185). -/
theorem State.linkSound_freeTransmitter (hb : s.ctl.Bounded) (hs : s.ctl.Served) (hrec : s.ReceptionSound) :
    s.freeTransmitter.LinkSound := by
  have served : s.freeTransmitter.ctl.Served := hs.congr (by simp [freeTransmitter]) (by simp [freeTransmitter])
    (by simp [freeTransmitter])
  exact (linkSound_iff _).mpr
    ⟨freeTransmitter_bounded hb, s.freeTransmitter_lineSound, served, hrec.of_cycle (by simp [freeTransmitter])⟩

/-! ## Bytes received (R179 to R182) -/

theorem State.LinkSound.handle (h : s.LinkSound) (f : Found) : (s.handle f).LinkSound := by
  cases f with
  | frame f => exact h.serve ((s.joinFifo_keepsLink f).trans (heardFrame_leavesRequests _).toKeepsLink)
  | discard =>
    obtain ⟨hb, -⟩ := s.linkSound_iff.mp h
    exact h.leaves (.of_receiver hb.gathering (fun _ => bump_le _) s.now s.ctl.rxLast)

theorem State.LinkSound.receiveByte (h : s.LinkSound) (b : Byte) : (s.receiveByte b).LinkSound := by
  have gathered := State.LeavesRequests.of_receiver (s := s.closeGap) (scan_rest 0 (s.closeGap.ctl.rxBuffer ++ [b])) id
    s.closeGap.now s.closeGap.now
  exact foldl_keeps State.LinkSound State.handle (fun _ f hs => hs.handle f) _ _
    (h.leaves (s.closeGap_leavesRequests.trans gathered))

theorem State.LinkSound.receiveBytes (h : s.LinkSound) (start k : Nat) (l : List Byte) :
    (receiveBytes start k l s).LinkSound := by
  induction l generalizing s k with
  | nil => exact h
  | cons b l ih => exact ih ((h.leaves (t := s.runTo _) (.of_eq rfl rfl)).receiveByte b) _

theorem State.LinkSound.frameGapTimeout (h : s.LinkSound) (he : execFrameGapTimeout s = .next t) : t.LinkSound := by
  injection he with he; subst he
  split
  · exact (h.leaves (t := s.runTo _) (.of_eq rfl rfl)).leaves (closeGap_leavesRequests _)
  · exact h

/-! ## Requests (R182, R183) -/

theorem State.LinkSound.request (h : s.LinkSound) {c : Instr} {k tag : Byte} {m : State → Answer}
    (hm : requestMeaning c = some (k, tag, m)) (he : exec c s = .next t) : t.LinkSound := by
  obtain ⟨f, -, hexec⟩ := exec_request c hm s
  rw [hexec] at he
  injection he with he; subst he
  unfold offer
  split
  · next hready => exact h.keeps (request_keepsLink hm hready.2) fun _ _ => .of_empty ((request_fifo hm).trans hready.1)
  · exact h.serve (s.joinFifo_keepsLink f)

theorem State.LinkSound.unknownRequest (h : s.LinkSound) {k tag : Byte} {payload : List Byte}
    (he : execUnknownRequest k tag payload s = .next t) : t.LinkSound := by
  injection he with he; subst he
  split
  · next hready =>
    exact h.keeps (takeFrame_keepsLink hready.2 _) fun _ _ => .of_empty ((s.takeFrame_fifo _).trans hready.1)
  · exact h.serve (s.joinFifo_keepsLink _)

/-! ## The timers of the notice queue (R187) -/

/-- A timer runs only for queued notices, so the mark is set only for them. -/
theorem State.LinkSound.timerExpired (h : s.LinkSound) (hne : s.ctl.notices ≠ []) (now : Nat)
    (quiet absolute : Option Nat) :
    (State.formationTest { s with
      now := now, ctl := { s.ctl with quiet := quiet, absolute := absolute, expiryMark := true } }).LinkSound := by
  refine h.keeps ⟨fun hb => ?_, fun hl => ?_, fun hrec => hrec.of_cycle (by simp)⟩
    fun hserved _ => hserved.congr (by simp) (by simp) (by simp)
  · exact formationTest_bounded { hb with quiet := fun hempty => absurd hempty hne }
  · exact formationTest_lineSound ⟨hl.idle, hl.sendingReply, hl.sendingBatch⟩

theorem State.LinkSound.quietTimerExpiry (h : s.LinkSound) (he : execQuietTimerExpiry s = .next t) : t.LinkSound := by
  injection he with he; subst he
  split
  · next due hdue => exact h.timerExpired (fun hempty => by simp [(h.quiet hempty).1] at hdue) _ none s.ctl.absolute
  · exact h

theorem State.LinkSound.absoluteTimerExpiry (h : s.LinkSound) (he : execAbsoluteTimerExpiry s = .next t) :
    t.LinkSound := by
  injection he with he; subst he
  split
  · next due hdue => exact h.timerExpired (fun hempty => by simp [(h.quiet hempty).2.1] at hdue) _ s.ctl.quiet none
  · exact h

/-! ## The two starts (R174, R175, R191) -/

/-- After a start the control link is empty but for the batch of the STARTED notice, which is being sent. -/
theorem State.LinkSound.started {last errors dropped since : Nat} {n : Notice}
    (herrors : errors ≤ 65535 ∧ dropped ≤ 65535)
    (hctl : s.ctl = { ControlLink.reset with
      rxLast := last, crcErrors := errors, dropped := dropped, slot := some ⟨0, 0, [n]⟩, batchSequence := 1
      transmitter := .sendingBatch since }) (hrec : s.ReceptionSound) : s.LinkSound := by
  rw [linkSound_iff, hctl]
  refine ⟨?_, ⟨nofun, nofun, nofun⟩, nofun, hrec⟩
  exact
    { notices := Nat.zero_le _, fifo := Nat.zero_le _, replies := Nat.zero_le _, restarting := rfl
      quiet := fun _ => ⟨rfl, rfl, rfl⟩, gathering := ⟨rfl, Nat.zero_le _⟩
      counts := ⟨herrors.1, herrors.2, Nat.zero_le _⟩
      batch := fun b hb => by cases hb; exact ⟨Nat.le_refl _, Nat.le_add_left _ 7⟩ }

theorem State.LinkSound.hardwareReset {b : Bool} (he : execHardwareReset b s = .next t) : t.LinkSound := by
  unfold execHardwareReset at he
  rw [postStarted_eq (rxLast := 0) (crcErrors := 0) (dropped := 0) rfl] at he
  injection he with he; subst he
  exact .started ⟨Nat.zero_le _, Nat.zero_le _⟩ rfl nofun

theorem State.LinkSound.restart (hcounts : s.ctl.crcErrors ≤ 65535 ∧ s.ctl.dropped ≤ 65535) (hrec : s.ReceptionSound) :
    s.restart.LinkSound := by
  rw [restart_eq]
  exact .started hcounts rfl hrec

/-! ## The end of a frame on the line (R174, R182, R185, R189) -/

theorem State.LinkSound.replySent (h : s.LinkSound) (he : execReplySent s = .next t) : t.LinkSound := by
  injection he with he; subst he
  obtain ⟨hb, -, -, hrec⟩ := s.linkSound_iff.mp h
  split
  · next since r rest hline hreplies =>
    let left : State :=
      { s.runTo (since + controlBytesTime r.bytes.length) with ctl := { s.ctl with replies := rest } }
    change (if s.ctl.hold && r.isRestart then left.restart else left.serve.freeTransmitter).LinkSound
    have hhold : s.ctl.hold = (r.isRestart || rest.any Reply.isRestart) := by
      rw [hb.restarting, hreplies, List.any_cons]
    split
    · exact .restart ⟨hb.counts.1, hb.counts.2.1⟩ hrec
    · next hother =>
      have hleft : left.ctl.Bounded :=
        { hb with
          replies := by
            have hle := hb.replies
            rw [hreplies, List.length_cons] at hle
            exact Nat.le_of_succ_le hle
          restarting := by
            change s.ctl.hold = rest.any Reply.isRestart
            cases hr : r.isRestart with
            | false => simpa only [hr, Bool.false_or] using hhold
            | true => exact absurd (by simp [hhold, hr]) hother }
      exact linkSound_freeTransmitter (left.serve_keepsLink.bounded hleft) (left.serve_served hleft)
        (left.serve_keepsLink.reception hrec)
  · exact h

theorem State.LinkSound.batchSent (h : s.LinkSound) (he : execBatchSent s = .next t) : t.LinkSound := by
  injection he with he; subst he
  obtain ⟨hb, -, hserved, hrec⟩ := s.linkSound_iff.mp h
  split
  · next since b hline hslot =>
    let emptied : State :=
      { s.runTo (since + controlBytesTime b.bytes.length) with ctl := { s.ctl with slot := none } }
    change emptied.formationTest.freeTransmitter.LinkSound
    have hempty : emptied.ctl.Bounded := { hb with batch := nofun }
    exact linkSound_freeTransmitter (formationTest_bounded hempty)
      (hserved.congr (by simp [emptied]) (by simp [emptied]) (by simp [emptied])) (hrec.of_cycle (by simp [emptied]))
  · exact h

/-! ## Every step -/

theorem State.LinkSound.exec {c : Instr} (he : exec c s = .next t) (h : s.LinkSound) : t.LinkSound := by
  have request := fun {k tag m} (hm : requestMeaning c = some (k, tag, m)) => h.request hm he
  cases c
  case hardwareReset => exact .hardwareReset he
  case tachoPulse => exact h.leaves (execTachoPulse_leavesRequests he)
  case tachoStall => exact h.leaves (execTachoStall_leavesRequests he)
  case comparisonWindow => exact h.leaves (execComparisonWindow_leavesRequests he)
  case markerPulse => exact h.leaves (execMarkerPulse_leavesRequests he)
  case inhibitSet => exact h.leaves (execInhibitSet_leavesRequests he)
  case inhibitClear => exact h.leaves (execInhibitClear_leavesRequests he)
  case clockWindow => exact h.leaves (execClockWindow_leavesRequests he)
  case linkSilentOnset => exact h.leaves (execLinkSilentOnset_leavesRequests he)
  case controlFrame => exact h.leaves (execControlFrame_leavesRequests he)
  case pollCycleExpiry => exact h.leaves (execPollCycleExpiry_leavesRequests he)
  case setpointSend => exact h.leaves (execSetpointSend_leavesRequests he)
  case setpointSent => exact h.leaves (execSetpointSent_leavesRequests he)
  case turnWaitLimit => exact h.leaves (execTurnWaitLimit_leavesRequests he)
  case replyWindowClose => exact h.leaves (execReplyWindowClose_leavesRequests he)
  case statusReception => exact h.leaves (execStatusReception_leavesRequests he)
  case controlFrameReceived dt bytes =>
    injection he with he; subst he
    exact (h.leaves (t := s.after dt) (.of_eq rfl rfl)).receiveBytes _ _ _
  case controlLinkByteReceived dt b =>
    injection he with he; subst he
    exact (h.leaves (t := s.after dt) (.of_eq rfl rfl)).receiveByte b
  case frameGapTimeout => exact h.frameGapTimeout he
  case unknownRequest => exact h.unknownRequest he
  case replySent => exact h.replySent he
  case batchSent => exact h.batchSent he
  case quietTimerExpiry => exact h.quietTimerExpiry he
  case absoluteTimerExpiry => exact h.absoluteTimerExpiry he
  all_goals exact request rfl

/-- Settles O59: the bounds hold at every change of the link, the line is right again once the transmitter has chosen, a
test of the FIFO leaves only frames that cannot be taken, and a reception ends with its tenth byte. -/
theorem linkStaysSound : Obligations.LinkStaysSound := by
  intro s t hstep h
  rcases step_cases hstep with ⟨c, rest, -, he⟩ | ⟨c, -, -, he⟩ | ⟨-, -, rfl⟩
  · exact .exec he (h.leaves (.of_eq rfl rfl))
  · exact .exec he h
  · exact h.leaves (.of_eq rfl rfl)

end Sound

end Sys2Proof.Machine
end

section
/-! SUPPORT. Requests that are refused: their one reply, and nothing else (O8). -/

namespace Sys2Proof.Machine

@[simp] theorem Answer.done_status (s : State) (data : List Byte) : (Answer.done s data).status = .ok := rfl

/-- A request is carried out with OK, or its meaning is the state it found (R183). -/
theorem request_ok_or_unchanged {c : Instr} {k tag : Byte} {m : State → Answer}
    (hm : requestMeaning c = some (k, tag, m)) (s : State) : (m s).status = .ok ∨ (m s).state = s := by
  cases c <;> simp only [requestMeaning, reduceCtorEq, Option.some.injEq, Prod.mk.injEq] at hm <;>
    obtain ⟨-, -, rfl⟩ := hm
  case identify | queryTrain | routeClear | resumeAll => exact .inl rfl
  case configureTrain => unfold requestConfigureTrain; (repeat' split) <;> simp
  case setTiltLaw => unfold requestSetTiltLaw; split <;> simp
  case setTrainSet => unfold requestSetTrainSet; split <;> simp
  case setModeRun => unfold requestSetModeRun; (repeat' split) <;> simp
  case setModeConfig => unfold requestSetModeConfig; split <;> simp
  case setPosition => unfold requestSetPosition; (repeat' split) <;> simp
  case positionFix => unfold requestPositionFix; split <;> simp
  case routeAppend => unfold requestRouteAppend; (repeat' split) <;> simp
  case routeTruncate => unfold requestRouteTruncate State.truncated; (repeat' split) <;> simp
  case routeConfirm => unfold requestRouteConfirm; split <;> simp
  case resume => unfold requestResume requestResumeAll; (repeat' split) <;> simp
  case readmit => unfold requestReadmit; (repeat' split) <;> simp
  case queryCar => unfold requestQueryCar; split <;> simp
  case queryRoute => unfold requestQueryRoute; split <;> simp
  case restart => unfold requestRestart; split <;> simp

/-! ## Frames refused as they are taken (R167, R183) -/

section Refused

variable {f : Frame} (s : State)

theorem State.takeFrame_badLength (h : decodeRequest f = .badLength) :
    s.takeFrame f = s.replied ⟨replyKind f.kind, f.tag, .badLength, []⟩ := by
  rw [takeFrame, h]
  exact answerRequest_replied _ _ _

theorem State.takeFrame_badMode (h : decodeRequest f = .badMode) :
    s.takeFrame f = s.replied ⟨replyKind f.kind, f.tag, .outOfRange, []⟩ := by
  rw [takeFrame, h]
  exact answerRequest_replied _ _ _

theorem State.takeFrame_unknown (h : isRequestKind f.kind = false) :
    s.takeFrame f = s.replied ⟨replyKind f.kind, f.tag, .unknownRequest, []⟩ := by
  rw [takeFrame, decodeRequest_unknown h]
  exact answerRequest_replied _ _ _

end Refused

theorem decodeMode_badMode {mode : Byte} (hconfig : mode ≠ 0) (hrun : mode ≠ 1) (tag : Byte) :
    decodeMode tag mode = .badMode := by
  rw [decodeMode, if_neg hconfig, if_neg hrun]

/-- Settles O8: a refused request's meaning is the state it found, and a frame refused as it is taken has no other. -/
theorem refusedRequestChangesNothing : Obligations.RefusedRequestChangesNothing := by
  refine ⟨fun c k tag m s hm hready hrefused => ?_, fun k tag payload s hk hready => ?_,
    fun f s hf => s.takeFrame_badLength hf, fun tag value s hconfig hrun => ?_⟩
  · have unchanged := (request_ok_or_unchanged hm s).resolve_left hrefused
    rw [exec_ready hm hready, unchanged]
    rfl
  · have taken : exec (.unknownRequest k tag payload) s = .next (s.takeFrame ⟨k, tag, payload⟩) :=
      congrArg _ (if_pos ⟨hready.1, hready.canTake⟩)
    rw [taken, s.takeFrame_unknown hk]
    rfl
  · have hkind : replyKind 0x05 = 0x85 := by decide
    rw [s.takeFrame_badMode (f := ⟨0x05, tag, [value]⟩) (decodeMode_badMode hconfig hrun tag), hkind]

end Sys2Proof.Machine
end

section
/-! SUPPORT. The bytes of what the module sends, in numbers (O27). -/

namespace Sys2Proof.Machine

/-! ## Byte order and CRC (R194) -/

/-- The byte at an offset of a word. -/
theorem extractByte_eq {n : Nat} (x : BitVec n) (k : Nat) : x.extractLsb' k 8 = BitVec.ofNat 8 (x.toNat / 2 ^ k) := by
  rw [← Nat.shiftRight_eq_div_pow]; rfl

theorem bytes16_eq (x : BitVec 16) : bytes16 x = [BitVec.ofNat 8 (x.toNat / 256), BitVec.ofNat 8 x.toNat] := by
  simp [bytes16, extractByte_eq]

theorem bytes24_eq (x : BitVec 24) :
    bytes24 x = [BitVec.ofNat 8 (x.toNat / 65536), BitVec.ofNat 8 (x.toNat / 256), BitVec.ofNat 8 x.toNat] := by
  simp [bytes24, extractByte_eq]

theorem bytes32_eq (x : BitVec 32) : bytes32 x = [BitVec.ofNat 8 (x.toNat / 16777216),
    BitVec.ofNat 8 (x.toNat / 65536), BitVec.ofNat 8 (x.toNat / 256), BitVec.ofNat 8 x.toNat] := by
  simp [bytes32, extractByte_eq]

/-- The CRC is taken byte after byte. -/
theorem crc16_append_singleton (l : List Byte) (b : Byte) : crc16 (l ++ [b]) = crcByte (crc16 l) b :=
  List.foldl_append

/-! ## Frames sent (Tables 11-1, 11-8) -/

theorem Notice.bytes_length (n : Notice) : n.bytes.length = 10 := rfl

/-- A record is 10 bytes. -/
theorem records_length (l : List Notice) : (l.flatMap Notice.bytes).length = 10 * l.length := by
  induction l with
  | nil => rfl
  | cons n l ih => rw [List.flatMap_cons, List.length_append, n.bytes_length, ih, List.length_cons]; omega

/-- LEN of a batch counts the lost count and the records. -/
theorem batchPayload_length (lost : BitVec 16) (l : List Notice) :
    (bytes16 lost ++ l.flatMap Notice.bytes).length = 2 + 10 * l.length := by
  rw [List.length_append, records_length]; rfl

/-- A frame's time is the least whole number of µs that its bits take (log 9). -/
theorem controlBytesTime_bounds (n : Nat) : n * 10000000 ≤ controlBytesTime n * 460800
    ∧ controlBytesTime n * 460800 < n * 10000000 + 460800 := by
  unfold controlBytesTime; omega

theorem NoticeKind.urgent_iff (k : NoticeKind) : k.urgent = true
    ↔ k ∈ [NoticeKind.started, .mode, .routeDoubt, .isolated, .clockFallback, .inhibit] := by
  cases k <;> decide

/-- Settles O27: numbers by their bytes, frames by their parts, codes by the tables. -/
theorem sentFramesSpelledOut : Obligations.SentFramesSpelledOut := by
  refine ⟨bytes16_eq, bytes24_eq, bytes32_eq, rfl, crc16_append_singleton, fun r => rfl, fun n => rfl, fun b => ?_,
    fun f => rfl, by decide, by decide, by decide, by decide, by decide, by decide, NoticeKind.urgent_iff,
    controlBytesTime_bounds⟩
  rw [Batch.bytes, frameBytes, batchPayload_length]
  rfl

end Sys2Proof.Machine
end

section
/-! SUPPORT. What the receiver makes of bytes that are no frame (O6). -/

namespace Sys2Proof.Machine

/-! ## The cases of `scan` (R179, R180) -/

theorem scan_notSync {b : Byte} (h : b ≠ syncByte) (rest : List Byte) : scan 0 (b :: rest) = scan 0 rest := by
  rw [scan.eq_def]
  exact if_pos h

theorem scan_long {len : Byte} (h : 120 < len.toNat) (rest : List Byte) : scan 0 (syncByte :: len :: rest)
    = (.discard :: (scan 0 (len :: rest)).1, (scan 0 (len :: rest)).2) := by
  rw [scan, if_neg (not_not.mpr rfl)]
  dsimp only
  rw [if_pos h]

theorem scan_incomplete {len : Byte} {body : List Byte} (h : len.toNat ≤ 120) (hbody : body.length < len.toNat + 4) :
    scan 0 (syncByte :: len :: body) = ([], syncByte :: len :: body) := by
  rw [scan, if_neg (not_not.mpr rfl)]
  dsimp only
  rw [if_neg (by omega), if_pos (by rw [List.length_cons]; omega)]

/-- A complete frame's bytes that pass the check are that frame's. -/
theorem checkFrame_frame {len : Byte} {body : List Byte} {f : Frame} (hbody : body.length = len.toNat + 4)
    (h : checkFrame (len :: body) = .frame f) : f.bytes = syncByte :: len :: body := by
  obtain _ | ⟨kind, _ | ⟨tag, rest⟩⟩ := body
  · simp at hbody
  · simp at hbody
  · simp only [checkFrame] at h
    split at h
    · next hcrc =>
      cases h
      have hlength : (rest.take len.toNat).length = len.toNat := by
        simp only [List.length_cons] at hbody
        rw [List.length_take]; omega
      simp only [Frame.bytes, frameBytes, hlength, BitVec.ofNat_toNat, BitVec.setWidth_eq, ← hcrc, List.cons_append,
        List.take_append_drop]
    · exact nomatch h

/-- A complete frame that is not valid is discarded, and the bytes after its SYNC are examined again. -/
theorem scan_damaged {len : Byte} {body : List Byte} (h : len.toNat ≤ 120) (hbody : body.length = len.toNat + 4)
    (hf : ∀ f : Frame, f.bytes ≠ syncByte :: len :: body) (rest : List Byte) :
    scan 0 (syncByte :: len :: (body ++ rest))
      = (.discard :: (scan 0 (len :: (body ++ rest))).1, (scan 0 (len :: (body ++ rest))).2) := by
  have htake : (len :: (body ++ rest)).take (len.toNat + 5) = len :: body := by
    rw [List.take_succ_cons, ← hbody, List.take_left]
  have hcheck : checkFrame (len :: body) = .discard := by
    cases hc : checkFrame (len :: body) with
    | frame f => exact absurd (checkFrame_frame hbody hc) (hf f)
    | discard => rfl
  rw [scan, if_neg (not_not.mpr rfl)]
  dsimp only
  rw [if_neg (by omega), if_neg (by simp only [List.length_cons, List.length_append]; omega), htake, hcheck]

/-- Settles O6, by the cases of the receiver. -/
theorem damagedBytesAreScannedAgain : Obligations.DamagedBytesAreScannedAgain :=
  ⟨fun _ rest h => scan_long h rest, fun _ _ rest h hbody hf => scan_damaged h hbody hf rest,
    fun _ rest h => scan_frame h rest, fun _ rest h => scan_notSync h rest⟩

end Sys2Proof.Machine
end

section
/-! SUPPORT. A request that waits, the test of the FIFO, and the end of a reply (O9, O11). -/

namespace Sys2Proof.Machine

/-! ## The test of the FIFO (R182) -/

theorem State.canTake_eq_false {s : State} (h : 4 ≤ s.ctl.replies.length ∨ s.ctl.hold = true) :
    s.canTake = false := by
  rw [Bool.eq_false_iff, ne_eq, canTake_iff]
  rintro ⟨hroom, hhold⟩
  rcases h with h | h
  · omega
  · exact nomatch hhold.symm.trans h

/-- With nothing waiting, or nothing that can be taken, the test of the FIFO changes nothing. -/
theorem State.serve_eq_self {s : State} (h : s.ctl.fifo = [] ∨ s.canTake = false) : s.serve = s := by
  unfold serve
  cases hfifo : s.ctl.fifo with
  | nil => rfl
  | cons f waiting =>
    have hwait := h.resolve_left (by simp [hfifo])
    rw [List.length_cons, serveFrames, hfifo]
    exact if_neg (by simp [hwait])

/-- The oldest frame is taken, and the FIFO is tested again. -/
theorem State.serve_cons {s : State} {f : Frame} {waiting : List Frame} (hfifo : s.ctl.fifo = f :: waiting)
    (htake : s.canTake = true) : s.serve = ((s.withFifo waiting).takeFrame f).serve := by
  have hleft : ((s.withFifo waiting).takeFrame f).ctl.fifo = waiting := takeFrame_fifo _ _
  unfold serve
  rw [hleft, hfifo, List.length_cons, serveFrames, hfifo]
  exact if_pos htake

/-! ## A request that waits (R181, R182) -/

/-- A request that cannot be taken goes to the FIFO (log 5). -/
theorem exec_waits {c : Instr} {f : Frame} (he : encodeRequest c = some f) {s : State} (h : s.canTake = false) :
    exec c s = .next (s.joinFifo f).serve := by
  have hready : ¬ (s.ctl.fifo = [] ∧ s.canTake) := by simp [h]
  rcases encodeRequest_cases he with rfl | ⟨⟨k, tag, m⟩, hm⟩
  · exact congrArg _ (if_neg hready)
  · obtain ⟨g, hg, hexec⟩ := exec_request c hm s
    obtain rfl : f = g := Option.some.inj (he.symm.trans hg)
    rw [hexec, State.offer, if_neg hready]

theorem State.joinFifo_canTake (s : State) (f : Frame) : (s.joinFifo f).canTake = s.canTake := by
  unfold joinFifo canTake
  split
  · rfl
  · rw [post_replies, post_hold]

/-- Settles O9: the frame joins the FIFO or is dropped with its notice, and the FIFO cannot be served. -/
theorem busyRequestWaits : Obligations.BusyRequestWaits := by
  intro c f s he hbusy
  have hwait := s.canTake_eq_false hbusy
  have hexec : exec c s = .next (s.joinFifo f) := by
    rw [exec_waits he hwait, State.serve_eq_self (.inr (by rw [s.joinFifo_canTake, hwait]))]
  rw [hexec]
  constructor
  · intro hroom
    rw [State.joinFifo, if_pos hroom]
  · intro hfull
    rw [State.joinFifo, if_neg (by omega)]
    refine ⟨_, rfl, ?_, State.post_reports { s with ctl := { s.ctl with dropped := bump s.ctl.dropped } } _ _ _ _⟩
    rw [State.post_eq]

/-! ## The end of a frame on the line (R182, R185) -/

/-- The transmitter, idle again, takes the oldest reply, else the batch, else nothing. -/
theorem State.freeTransmitter_eq (s : State) : s.freeTransmitter = { s with ctl := { s.ctl with
    transmitter := if s.ctl.replies ≠ [] then .sendingReply s.now
      else if s.ctl.slot ≠ none then .sendingBatch s.now else .idle } } := by
  rw [freeTransmitter, chooseFrame_eq, chooseFrame_ctl, chooseFrame_transmitter _ rfl]

theorem exec_replySent {since : Nat} {r : Reply} {rest : List Reply} {s : State}
    (hline : s.ctl.transmitter = .sendingReply since) (hreplies : s.ctl.replies = r :: rest)
    (hr : r.isRestart = false) (hnow : s.now ≤ since + controlBytesTime r.bytes.length) :
    exec .replySent s = .next (State.serve { s with
      now := since + controlBytesTime r.bytes.length
      ctl := { s.ctl with replies := rest } }).freeTransmitter := by
  simp only [exec, execReplySent, hline, hreplies, State.runTo_of_le hnow, hr, Bool.and_false,
    Bool.false_eq_true, if_false]

/-- Settles O11: the reply leaves, the FIFO is tested, the transmitter chooses. -/
theorem replySentFreesTheLine : Obligations.ReplySentFreesTheLine := by
  refine ⟨fun since r rest s hline hreplies hr hnow => ?_, fun u hwait => ?_, fun u f waiting hfifo hroom hhold => ?_⟩
  · dsimp only
    rw [exec_replySent hline hreplies hr hnow, State.freeTransmitter_eq]
  · exact State.serve_eq_self (hwait.imp_right State.canTake_eq_false)
  · exact State.serve_cons hfifo (u.canTake_iff.mpr ⟨hroom, hhold⟩)

end Sys2Proof.Machine
end

section
/-! SUPPORT. The forming of batches: when one is due, and what is formed at the end of a batch, at the expiry of a timer
and at a posting (O12 to O14). -/

namespace Sys2Proof.Machine

/-! ## The formation test (R188) -/

theorem State.batchDue_iff (s : State) : s.batchDue = true ↔ s.ctl.notices ≠ []
    ∧ (s.unit.settings.noticeThreshold ≤ s.ctl.notices.length ∨ s.ctl.expiryMark = true
      ∨ ∃ n ∈ s.ctl.notices, n.kind.urgent = true) := by
  simp [batchDue, or_assoc]

theorem State.formationTest_due {s : State} (hdue : s.batchDue = true) (hslot : s.ctl.slot = none) :
    s.formationTest = s.formBatch.chooseFrame := by
  rw [formationTest, hdue, hslot]
  rfl

theorem State.formationTest_notDue {s : State} (hdue : ¬ s.batchDue = true) : s.formationTest = s := by
  rw [formationTest, Bool.eq_false_iff.mpr hdue]
  rfl

theorem State.formationTest_slot {s : State} (hslot : s.ctl.slot ≠ none) : s.formationTest = s := by
  unfold formationTest
  rw [Option.isNone_eq_false_iff.mpr (Option.isSome_iff_ne_none.mpr hslot), Bool.and_false]
  rfl

/-- The oldest eight notices and the lost count leave; the timers stop when no notice remains. -/
theorem State.formBatch_eq (s : State) : s.formBatch = { s with ctl := { s.ctl with
    slot := some ⟨s.ctl.batchSequence, s.ctl.lost, s.ctl.notices.take 8⟩
    batchSequence := s.ctl.batchSequence + 1
    notices := s.ctl.notices.drop 8, lost := 0, expiryMark := false
    quiet := if s.ctl.notices.length ≤ 8 then none else some (s.now + s.unit.settings.quietTime * 1000)
    absolute := if s.ctl.notices.length ≤ 8 then none
      else some (s.now + s.unit.settings.absoluteTime * 1000) } } := by
  simp only [formBatch, expiryIn, List.isEmpty_iff, List.drop_eq_nil_iff]

/-- A transmitter with a batch in the slot: an idle one takes the oldest reply, else the batch. -/
theorem State.chooseFrame_slotted {s : State} (hslot : s.ctl.slot ≠ none) : s.chooseFrame = { s with ctl := { s.ctl with
    transmitter := match s.ctl.transmitter with
      | .idle => if s.ctl.replies ≠ [] then .sendingReply s.now else .sendingBatch s.now
      | .sendingReply t => .sendingReply t
      | .sendingBatch t => .sendingBatch t } } := by
  cases hline : s.ctl.transmitter with
  | idle => rw [chooseFrame_eq, chooseFrame_ctl, chooseFrame_transmitter _ hline, if_pos hslot]
  | sendingReply t => rw [chooseFrame_busy _ (by simp [hline])]; dsimp only; rw [← hline]
  | sendingBatch t => rw [chooseFrame_busy _ (by simp [hline])]; dsimp only; rw [← hline]

theorem State.chooseFrame_sends {s : State} (hslot : s.ctl.slot ≠ none) : s.chooseFrame.ctl.transmitter ≠ .idle := by
  cases hline : s.ctl.transmitter with
  | idle =>
    rw [chooseFrame_transmitter _ hline, if_pos hslot]
    split <;> exact nofun
  | sendingReply t => rw [chooseFrame_busy _ (by simp [hline]), hline]; exact nofun
  | sendingBatch t => rw [chooseFrame_busy _ (by simp [hline]), hline]; exact nofun

/-! ## The end of a batch (R185, R189) -/

theorem exec_batchSent {since : Nat} {b : Batch} {s : State} (hline : s.ctl.transmitter = .sendingBatch since)
    (hslot : s.ctl.slot = some b) (hnow : s.now ≤ since + controlBytesTime b.bytes.length) :
    exec .batchSent s = .next (State.formationTest { s with
      now := since + controlBytesTime b.bytes.length
      ctl := { s.ctl with slot := none } }).freeTransmitter := by
  simp only [exec, execBatchSent, hline, hslot, State.runTo_of_le hnow]

/-- Settles O12: the formation test with the slot empty, then the choice. -/
theorem batchSentEmptiesTheSlot : Obligations.BatchSentEmptiesTheSlot := by
  intro since b s hline hslot hnow
  dsimp only
  let emptied : State := { s with
    now := since + controlBytesTime b.bytes.length
    ctl := { s.ctl with slot := none } }
  have hexec : exec .batchSent s = .next emptied.formationTest.freeTransmitter := exec_batchSent hline hslot hnow
  rw [hexec]
  constructor
  · intro hdue
    rw [State.formationTest_notDue (mt emptied.batchDue_iff.mp hdue), State.freeTransmitter_eq]
    rfl
  · intro hdue
    have busy : emptied.formBatch.ctl.transmitter ≠ .idle := by simp [State.formBatch, emptied, hline]
    rw [State.formationTest_due (emptied.batchDue_iff.mpr hdue) rfl, State.chooseFrame_busy _ busy, State.formBatch_eq,
      State.freeTransmitter_eq]
    rfl

/-! ## The expiry of a timer (R187) -/

/-- The expiry mark set, both timers at these values, at `due`. -/
def State.expired (s : State) (due : Nat) (quiet absolute : Option Nat) : State :=
  { s with now := due, ctl := { s.ctl with quiet := quiet, absolute := absolute, expiryMark := true } }

/-- Settles O13: the formation test with the mark set. -/
theorem timerExpiryFormsABatch : Obligations.TimerExpiryFormsABatch := by
  intro s formed
  have waits (due : Nat) (quiet absolute : Option Nat) (h : s.ctl.slot ≠ none ∨ s.ctl.notices = []) :
      (s.expired due quiet absolute).formationTest = s.expired due quiet absolute := by
    rcases h with hslot | hnotices
    · exact State.formationTest_slot hslot
    · exact State.formationTest_notDue fun hdue => State.batchDue_notices hdue hnotices
  have forms (due : Nat) (quiet absolute : Option Nat) (hslot : s.ctl.slot = none) (hnotices : s.ctl.notices ≠ []) :
      (s.expired due quiet absolute).formationTest = { s with now := due, ctl := formed due } := by
    have hdue : (s.expired due quiet absolute).batchDue = true :=
      (State.batchDue_iff _).mpr ⟨hnotices, .inr (.inl rfl)⟩
    rw [State.formationTest_due hdue hslot, State.chooseFrame_slotted (Option.some_ne_none _), State.formBatch_eq]
    rfl
  have quietExpiry {due : Nat} (hquiet : s.ctl.quiet = some due) (hnow : s.now ≤ due) :
      exec .quietTimerExpiry s = .next (s.expired due none s.ctl.absolute).formationTest := by
    simp only [exec, execQuietTimerExpiry, hquiet, State.runTo_of_le hnow]
    rfl
  have absoluteExpiry {due : Nat} (habsolute : s.ctl.absolute = some due) (hnow : s.now ≤ due) :
      exec .absoluteTimerExpiry s = .next (s.expired due s.ctl.quiet none).formationTest := by
    simp only [exec, execAbsoluteTimerExpiry, habsolute, State.runTo_of_le hnow]
    rfl
  refine ⟨fun due hquiet hnow => ⟨fun h => ?_, fun hslot hnotices => ?_⟩,
    fun due habsolute hnow => ⟨fun h => ?_, fun hslot hnotices => ?_⟩, fun hquiet => ?_, fun habsolute => ?_⟩
  · rw [quietExpiry hquiet hnow, waits _ _ _ h]; rfl
  · rw [quietExpiry hquiet hnow, forms _ _ _ hslot hnotices]
  · rw [absoluteExpiry habsolute hnow, waits _ _ _ h]; rfl
  · rw [absoluteExpiry habsolute hnow, forms _ _ _ hslot hnotices]
  · simp only [exec, execQuietTimerExpiry, hquiet]
  · simp only [exec, execAbsoluteTimerExpiry, habsolute]

/-! ## A posting (R186 to R188) -/

theorem State.postNotice_room {s : State} (h : s.ctl.notices.length < 32) (n : Notice) :
    s.postNotice n = (s.joinNotice n).formationTest := if_pos h

theorem State.joinNotice_ctl (s : State) (n : Notice) : (s.joinNotice n).ctl = { s.ctl with
    notices := s.ctl.notices ++ [n]
    quiet := some (s.now + s.unit.settings.quietTime * 1000)
    absolute := if s.ctl.notices = [] then some (s.now + s.unit.settings.absoluteTime * 1000)
      else s.ctl.absolute } := by
  simp only [joinNotice, expiryIn, List.isEmpty_iff]

/-- Settles O14: a full queue counts the notice, else it joins and the formation test is made. -/
theorem postedNoticeJoinsOrIsLost : Obligations.PostedNoticeJoinsOrIsLost := by
  refine ⟨fun n s hfull => s.postNotice_full n hfull, fun n s hroom => ?_⟩
  rw [State.postNotice_room hroom]
  refine ⟨?_, ?_, fun hslot => ?_, fun hslot hdue => ?_, fun hslot hcalm hmark hfew => ?_⟩
  · rw [← State.postNotice_room hroom, ← State.postNotice_eq]
  · rw [← State.postNotice_room hroom]; exact s.postNotice_reports n
  · rw [State.formationTest_slot (s := s.joinNotice n) hslot, State.joinNotice_ctl]
  · have hjoined : (s.joinNotice n).batchDue = true := by
      rw [State.batchDue_iff, State.joinNotice_ctl]
      refine ⟨by simp, ?_⟩
      rcases hdue with hurgent | hmany
      · exact .inr (.inr ⟨n, by simp, hurgent⟩)
      · exact .inl (by simpa using hmany)
    rw [State.formationTest_due hjoined hslot, State.chooseFrame_slot, State.chooseFrame_notices]
    exact ⟨rfl, rfl, State.chooseFrame_sends (Option.some_ne_none _)⟩
  · have hjoined : ¬ (s.joinNotice n).batchDue = true := by
      rw [State.batchDue_iff, State.joinNotice_ctl]
      rintro ⟨-, hmany | hmarked | ⟨m, hm, hurgent⟩⟩
      · simp at hmany; omega
      · exact nomatch hmark.symm.trans hmarked
      · exact nomatch (hcalm m hm).symm.trans hurgent
    rw [State.formationTest_notDue hjoined, State.joinNotice_ctl]

end Sys2Proof.Machine
end

section
/-! SUPPORT. What the module does with a frame does not read the receiver: it is the same whatever bytes are in
gathering and whenever the last came. -/

namespace Sys2Proof.Machine

/-- The state with other bytes in gathering, the last of which came at another time. -/
def State.withReceiver (s : State) (bytes : List Byte) (last : Nat) : State :=
  { s with ctl := { s.ctl with rxBuffer := bytes, rxLast := last } }

def Answer.withReceiver (a : Answer) (bytes : List Byte) (last : Nat) : Answer :=
  { a with state := a.state.withReceiver bytes last }

section Receiver

variable (bytes : List Byte) (last : Nat)

theorem State.ite_withReceiver {p : Prop} [Decidable p] {s t s' t' : State} (hs : s' = s.withReceiver bytes last)
    (ht : t' = t.withReceiver bytes last) : (if p then s' else t') = (if p then s else t).withReceiver bytes last := by
  rw [hs, ht]
  exact (apply_ite (State.withReceiver · bytes last) p s t).symm

theorem Answer.ite_withReceiver {p : Prop} [Decidable p] {a b a' b' : Answer} (ha : a' = a.withReceiver bytes last)
    (hb : b' = b.withReceiver bytes last) : (if p then a' else b') = (if p then a else b).withReceiver bytes last := by
  rw [ha, hb]
  exact (apply_ite (Answer.withReceiver · bytes last) p a b).symm

theorem foldl_withReceiver {α : Type} {f : State → α → State}
    (hf : ∀ s x, f (s.withReceiver bytes last) x = (f s x).withReceiver bytes last) (l : List α) (s : State) :
    l.foldl f (s.withReceiver bytes last) = (l.foldl f s).withReceiver bytes last := by
  induction l generalizing s with
  | nil => rfl
  | cons x l ih => rw [List.foldl_cons, List.foldl_cons, hf, ih]

theorem Answer.done_withReceiver {s s' : State} (hs : s' = s.withReceiver bytes last) (data : List Byte) :
    Answer.done s' data = (Answer.done s data).withReceiver bytes last := by
  rw [hs]; rfl

/-! ## Notices and replies -/

theorem State.chooseFrame_withReceiver (s : State) :
    (s.withReceiver bytes last).chooseFrame = s.chooseFrame.withReceiver bytes last := by
  have hline : (s.withReceiver bytes last).ctl.transmitter = s.ctl.transmitter := rfl
  unfold chooseFrame
  rw [hline]
  cases s.ctl.transmitter with
  | idle => exact ite_withReceiver bytes last rfl (ite_withReceiver bytes last rfl rfl)
  | sendingReply t => rfl
  | sendingBatch t => rfl

theorem State.formationTest_withReceiver (s : State) :
    (s.withReceiver bytes last).formationTest = s.formationTest.withReceiver bytes last :=
  ite_withReceiver bytes last (s.formBatch.chooseFrame_withReceiver bytes last) rfl

theorem State.postNotice_withReceiver (s : State) (n : Notice) :
    (s.withReceiver bytes last).postNotice n = (s.postNotice n).withReceiver bytes last :=
  ite_withReceiver bytes last ((s.joinNotice n).formationTest_withReceiver bytes last) rfl

theorem State.post_withReceiver (s : State) (kind : NoticeKind) (car : Option CarId) (a b : BitVec 16) :
    (s.withReceiver bytes last).post kind car a b = (s.post kind car a b).withReceiver bytes last :=
  s.postNotice_withReceiver bytes last _

theorem answerRequest_withReceiver (kind tag : Byte) (a : Answer) :
    answerRequest kind tag (a.withReceiver bytes last) = (answerRequest kind tag a).withReceiver bytes last :=
  State.chooseFrame_withReceiver bytes last { a.state with ctl := { a.state.ctl with
    replies := a.state.ctl.replies ++ [⟨replyKind kind, tag, a.status, a.data⟩] } }

/-! ## Changes of mode and of a car's state -/

theorem State.changeMode_withReceiver (s : State) (m : Mode) :
    (s.withReceiver bytes last).changeMode m = (s.changeMode m).withReceiver bytes last :=
  post_withReceiver bytes last { s with unit := { s.unit with mode := m } } _ _ _ _

theorem State.settle_withReceiver (s : State) :
    (s.withReceiver bytes last).settle = s.settle.withReceiver bytes last :=
  ite_withReceiver bytes last (s.changeMode_withReceiver bytes last .config) rfl

theorem State.enter_withReceiver (s : State) (i : CarId) (st : CarState) (cause : CarCause) :
    (s.withReceiver bytes last).enter i st cause = (s.enter i st cause).withReceiver bytes last :=
  post_withReceiver bytes last (s.setCar i { s.cars[i] with state := st, target := 0, reason := .forcedZero }) _ _ _ _

theorem State.transition_withReceiver (s : State) (i : CarId) (st : CarState) (cause : CarCause) :
    (s.withReceiver bytes last).transition i st cause = (s.transition i st cause).withReceiver bytes last := by
  rw [transition, enter_withReceiver, settle_withReceiver, transition]

theorem State.centreCar_withReceiver (s : State) (cause : CarCause) (i : CarId) :
    (s.withReceiver bytes last).centreCar cause i = (s.centreCar cause i).withReceiver bytes last :=
  ite_withReceiver bytes last (s.transition_withReceiver bytes last i .returning cause) rfl

theorem State.centreAll_withReceiver (s : State) (cause : CarCause) :
    (s.withReceiver bytes last).centreAll cause = (s.centreAll cause).withReceiver bytes last :=
  foldl_withReceiver bytes last (fun s i => s.centreCar_withReceiver bytes last cause i) allCars s

theorem State.drainCar_withReceiver (s : State) (i : CarId) :
    (s.withReceiver bytes last).drainCar i = (s.drainCar i).withReceiver bytes last :=
  ite_withReceiver bytes last (s.centreCar_withReceiver bytes last .drain i) rfl

theorem State.stageCar_withReceiver (s : State) (i : CarId) :
    (s.withReceiver bytes last).stageCar i = (s.stageCar i).withReceiver bytes last :=
  ite_withReceiver bytes last
    (ite_withReceiver bytes last rfl ((s.copyLaw i).post_withReceiver bytes last _ _ _ _)) rfl

theorem State.release_withReceiver (s : State) (i : CarId) :
    (s.withReceiver bytes last).release i = (s.release i).withReceiver bytes last :=
  (s.setLatch i none).transition_withReceiver bytes last i _ _

theorem releaseCars_withReceiver (l : List CarId) (s : State) (n : Nat) :
    releaseCars l (s.withReceiver bytes last) n
      = ((releaseCars l s n).1.withReceiver bytes last, (releaseCars l s n).2) := by
  induction l generalizing s n with
  | nil => rfl
  | cons i l ih =>
    have hcars : (s.withReceiver bytes last).cars = s.cars := rfl
    unfold releaseCars
    rw [hcars, State.release_withReceiver, ih, ih]
    split <;> rfl

theorem State.recount_withReceiver (s : State) (i : CarId) :
    (s.withReceiver bytes last).recount i = (s.recount i).withReceiver bytes last :=
  ite_withReceiver bytes last
    (ite_withReceiver bytes last (transition_withReceiver bytes last (s.setCar i _) i _ _) rfl)
    (ite_withReceiver bytes last rfl (transition_withReceiver bytes last (s.setCar i _) i _ _))

theorem State.endTransaction_withReceiver (s : State) (c : PollCycle) :
    (s.withReceiver bytes last).endTransaction c = (s.endTransaction c).withReceiver bytes last := by
  rw [endTransaction_eq, endTransaction_eq]; rfl

theorem State.leaveToNextCycle_withReceiver (s : State) (joins : CarId → Bool) :
    (s.withReceiver bytes last).leaveToNextCycle joins = (s.leaveToNextCycle joins).withReceiver bytes last := by
  have hcycle : (s.withReceiver bytes last).link.cycle = s.link.cycle := rfl
  unfold leaveToNextCycle
  rw [hcycle]
  cases s.link.cycle with
  | none => rfl
  | some c =>
    dsimp only
    cases c.phase with
    | waiting t => exact ite_withReceiver bytes last (s.endTransaction_withReceiver bytes last _) rfl
    | sending t f => rfl
    | window t f => rfl
    | receiving t f h => rfl

/-! ## The train position (R7, R15, R17) -/

theorem State.retireSegments_withReceiver (s : State) :
    (s.withReceiver bytes last).retireSegments = s.retireSegments.withReceiver bytes last :=
  ite_withReceiver bytes last rfl rfl

theorem State.movePosition_withReceiver (s : State) (p r : Nat) :
    (s.withReceiver bytes last).movePosition p r = (s.movePosition p r).withReceiver bytes last := by
  let moved : State := { s with odo := { s.odo with position := p, remainder := r } }
  have hretired := moved.retireSegments_withReceiver bytes last
  exact ite_withReceiver bytes last (congrArg State.retireMismatches hretired)
    (ite_withReceiver bytes last hretired rfl)

theorem State.fixApplied_withReceiver (s : State) (c : Int) (newer : List Capture) :
    (s.withReceiver bytes last).fixApplied c newer = (s.fixApplied c newer).withReceiver bytes last := by
  have hmoved : (s.withReceiver bytes last).fixMoved c newer = (s.fixMoved c newer).withReceiver bytes last :=
    movePosition_withReceiver bytes last { s with odo := { s.odo with captures := s.fixCaptures c newer } } _ _
  have hreported : (s.withReceiver bytes last).fixReported c newer
      = (s.fixReported c newer).withReceiver bytes last := by
    rw [fixReported, hmoved, post_withReceiver]; rfl
  unfold fixApplied
  rw [hreported, centreAll_withReceiver]
  exact ite_withReceiver bytes last rfl rfl

/-! ## Requests -/

theorem requestConfigureTrain_withReceiver (p : TrainPayload) (s : State) :
    requestConfigureTrain p (s.withReceiver bytes last)
      = (requestConfigureTrain p s).withReceiver bytes last := by
  refine Answer.ite_withReceiver bytes last rfl ?_
  cases firstBad (trainChecks p) with
  | some index => rfl
  | none =>
    have hcounted := foldl_withReceiver bytes last (State.recount_withReceiver bytes last) allCars
      { s with unit := { s.unit with settings := trainSettings p } }
    have hforgotten (l : List CarId) (u : State) : l.foldl State.forgetCar (u.withReceiver bytes last)
        = (l.foldl State.forgetCar u).withReceiver bytes last := foldl_withReceiver bytes last (fun _ _ => rfl) l u
    refine Answer.done_withReceiver bytes last ?_ []
    rw [← State.leaveToNextCycle_withReceiver, ← hforgotten, ← hcounted]
    rfl

theorem requestSetTiltLaw_withReceiver (p : LawPayload) (s : State) :
    requestSetTiltLaw p (s.withReceiver bytes last) = (requestSetTiltLaw p s).withReceiver bytes last := by
  unfold requestSetTiltLaw
  cases firstBad (lawChecks p) with
  | some index => rfl
  | none =>
    exact Answer.done_withReceiver bytes last
      (foldl_withReceiver bytes last (State.stageCar_withReceiver bytes last) allCars { s with unit := { s.unit with
        stagedLaw := lawOf p, stagedGeneration := s.unit.stagedGeneration + 1 } }) _

theorem requestSetTrainSet_withReceiver (p : TrainSetPayload) (s : State) :
    requestSetTrainSet p (s.withReceiver bytes last) = (requestSetTrainSet p s).withReceiver bytes last := by
  unfold requestSetTrainSet
  cases firstBad (trainSetChecks p) with
  | some index => rfl
  | none =>
    refine Answer.done_withReceiver bytes last ?_ []
    exact State.ite_withReceiver bytes last rfl rfl

theorem requestSetModeRun_withReceiver (s : State) :
    requestSetModeRun (s.withReceiver bytes last) = (requestSetModeRun s).withReceiver bytes last := by
  have hmode : (s.withReceiver bytes last).unit.mode = s.unit.mode := rfl
  unfold requestSetModeRun
  rw [hmode]
  cases s.unit.mode with
  | config =>
    refine Answer.ite_withReceiver bytes last rfl (Answer.ite_withReceiver bytes last ?_ rfl)
    rw [State.changeMode_withReceiver]; rfl
  | run => rfl
  | draining => rfl

theorem requestSetModeConfig_withReceiver (s : State) :
    requestSetModeConfig (s.withReceiver bytes last) = (requestSetModeConfig s).withReceiver bytes last := by
  have hmode : (s.withReceiver bytes last).unit.mode = s.unit.mode := rfl
  unfold requestSetModeConfig
  rw [hmode]
  cases s.unit.mode with
  | config => rfl
  | run =>
    dsimp only
    rw [State.changeMode_withReceiver, foldl_withReceiver bytes last (State.drainCar_withReceiver bytes last),
      State.settle_withReceiver]
    generalize (allCars.foldl State.drainCar (s.changeMode .draining)).settle = drained
    rfl
  | draining => rfl

theorem requestSetPosition_withReceiver (x : BitVec 32) (s : State) :
    requestSetPosition x (s.withReceiver bytes last) = (requestSetPosition x s).withReceiver bytes last :=
  Answer.ite_withReceiver bytes last rfl (Answer.ite_withReceiver bytes last rfl
    (Answer.done_withReceiver bytes last (State.movePosition_withReceiver bytes last
      { s with odo := { s.odo with positionValid := true, captures := [] } } _ _) []))

theorem requestPositionFix_withReceiver (n : Byte) (x : BitVec 32) (s : State) :
    requestPositionFix n x (s.withReceiver bytes last) = (requestPositionFix n x s).withReceiver bytes last := by
  cases hfound : findCapture n s.odo.captures with
  | none =>
    rw [requestPositionFix_missing hfound, requestPositionFix_missing (s := s.withReceiver bytes last) hfound]
    rfl
  | some found =>
    obtain ⟨captured, newer⟩ := found
    rw [requestPositionFix_found hfound, requestPositionFix_found (s := s.withReceiver bytes last) hfound,
      State.fixApplied_withReceiver]
    rfl

theorem requestRouteAppend_withReceiver (anchor : BitVec 32) (records : List SegmentPayload) (s : State) :
    requestRouteAppend anchor records (s.withReceiver bytes last)
      = (requestRouteAppend anchor records s).withReceiver bytes last := by
  refine Answer.ite_withReceiver bytes last rfl (Answer.ite_withReceiver bytes last rfl
    (Answer.ite_withReceiver bytes last rfl ?_))
  cases firstBadRecord anchor.toNat 0 records with
  | some index => rfl
  | none =>
    exact Answer.ite_withReceiver bytes last rfl (Answer.done_withReceiver bytes last
      ((s.append anchor.toNat records).retireSegments_withReceiver bytes last) _)

theorem requestRouteTruncate_withReceiver (x : BitVec 32) (s : State) :
    requestRouteTruncate x (s.withReceiver bytes last) = (requestRouteTruncate x s).withReceiver bytes last := by
  have hroute : (s.withReceiver bytes last).route = s.route := rfl
  refine Answer.ite_withReceiver bytes last ?_ rfl
  rw [hroute]
  cases s.route.commit with
  | some c => exact Answer.ite_withReceiver bytes last rfl rfl
  | none => rfl

theorem requestResumeAll_withReceiver (s : State) :
    requestResumeAll (s.withReceiver bytes last) = (requestResumeAll s).withReceiver bytes last := by
  have hconfigured : (s.withReceiver bytes last).configured = s.configured := rfl
  unfold requestResumeAll
  rw [hconfigured, releaseCars_withReceiver]
  rfl

theorem requestResume_withReceiver (car : Byte) (s : State) :
    requestResume car (s.withReceiver bytes last) = (requestResume car s).withReceiver bytes last := by
  have hnamed : (s.withReceiver bytes last).namedCar car = s.namedCar car := rfl
  refine Answer.ite_withReceiver bytes last (requestResumeAll_withReceiver bytes last s) ?_
  rw [hnamed]
  cases s.namedCar car with
  | none => rfl
  | some i =>
    exact Answer.ite_withReceiver bytes last rfl (Answer.ite_withReceiver bytes last rfl
      (Answer.done_withReceiver bytes last (s.release_withReceiver bytes last i) _))

theorem requestReadmit_withReceiver (car : Byte) (s : State) :
    requestReadmit car (s.withReceiver bytes last) = (requestReadmit car s).withReceiver bytes last := by
  have hnamed : (s.withReceiver bytes last).namedCar car = s.namedCar car := rfl
  unfold requestReadmit
  rw [hnamed]
  cases s.namedCar car with
  | none => rfl
  | some i =>
    refine Answer.ite_withReceiver bytes last rfl (Answer.done_withReceiver bytes last ?_ [])
    rw [← State.leaveToNextCycle_withReceiver, ← State.transition_withReceiver]
    rfl

theorem requestQueryCar_withReceiver (car : Byte) (s : State) :
    requestQueryCar car (s.withReceiver bytes last) = (requestQueryCar car s).withReceiver bytes last := by
  have hnamed : (s.withReceiver bytes last).namedCar car = s.namedCar car := rfl
  unfold requestQueryCar
  rw [hnamed]
  cases s.namedCar car <;> rfl

/-- No request reads the receiver. -/
theorem request_withReceiver {c : Instr} {k tag : Byte} {m : State → Answer}
    (hm : requestMeaning c = some (k, tag, m)) (s : State) :
    m (s.withReceiver bytes last) = (m s).withReceiver bytes last := by
  cases c <;> simp only [requestMeaning, reduceCtorEq, Option.some.injEq, Prod.mk.injEq] at hm <;>
    obtain ⟨-, -, rfl⟩ := hm
  case identify | queryTrain | routeClear => rfl
  case configureTrain g p => exact requestConfigureTrain_withReceiver bytes last p s
  case setTiltLaw g p => exact requestSetTiltLaw_withReceiver bytes last p s
  case setTrainSet g p => exact requestSetTrainSet_withReceiver bytes last p s
  case setModeRun g => exact requestSetModeRun_withReceiver bytes last s
  case setModeConfig g => exact requestSetModeConfig_withReceiver bytes last s
  case setPosition g x => exact requestSetPosition_withReceiver bytes last x s
  case positionFix g n x => exact requestPositionFix_withReceiver bytes last n x s
  case routeAppend g a rs => exact requestRouteAppend_withReceiver bytes last a rs s
  case routeTruncate g x => exact requestRouteTruncate_withReceiver bytes last x s
  case resume g x => exact requestResume_withReceiver bytes last x s
  case resumeAll g => exact requestResumeAll_withReceiver bytes last s
  case readmit g x => exact requestReadmit_withReceiver bytes last x s
  case queryCar g x => exact requestQueryCar_withReceiver bytes last x s
  case routeConfirm | queryRoute | restart => exact Answer.ite_withReceiver bytes last rfl rfl

/-! ## A valid frame (R157, R181, R182) -/

theorem State.takeFrame_withReceiver (s : State) (f : Frame) :
    (s.withReceiver bytes last).takeFrame f = (s.takeFrame f).withReceiver bytes last := by
  have refused (st : Status) : answerRequest f.kind f.tag (.refuse (s.withReceiver bytes last) st)
      = (answerRequest f.kind f.tag (.refuse s st)).withReceiver bytes last :=
    answerRequest_withReceiver bytes last f.kind f.tag (.refuse s st)
  unfold takeFrame
  cases decodeRequest f with
  | badLength => exact refused _
  | badMode => exact refused _
  | request c =>
    dsimp only
    cases hm : requestMeaning c with
    | none => exact refused _
    | some meaning =>
      obtain ⟨k, tag, m⟩ := meaning
      dsimp only
      rw [request_withReceiver bytes last hm, answerRequest_withReceiver]

theorem serveFrames_withReceiver (n : Nat) (s : State) :
    serveFrames n (s.withReceiver bytes last) = (serveFrames n s).withReceiver bytes last := by
  induction n generalizing s with
  | zero => rfl
  | succ n ih =>
    have hfifo : (s.withReceiver bytes last).ctl.fifo = s.ctl.fifo := rfl
    unfold serveFrames
    rw [hfifo]
    cases s.ctl.fifo with
    | nil => rfl
    | cons f rest =>
      have htaken := State.takeFrame_withReceiver bytes last { s with ctl := { s.ctl with fifo := rest } } f
      exact State.ite_withReceiver bytes last ((congrArg (serveFrames n) htaken).trans (ih _)) rfl

theorem State.joinFifo_withReceiver (s : State) (f : Frame) :
    (s.withReceiver bytes last).joinFifo f = (s.joinFifo f).withReceiver bytes last :=
  ite_withReceiver bytes last rfl
    (post_withReceiver bytes last { s with ctl := { s.ctl with dropped := bump s.ctl.dropped } } _ _ _ _)

theorem State.heardFrame_withReceiver (s : State) :
    (s.withReceiver bytes last).heardFrame = s.heardFrame.withReceiver bytes last := by
  have hposted := State.post_withReceiver bytes last { s with mon := { s.mon with linkSilent := false } } .linkSilentEnd
    none (u16 s.silenceTimer) (u16 s.unit.settings.silenceReaction.code)
  have htold : (if s.mon.linkSilent then _ else s.withReceiver bytes last)
      = (if s.mon.linkSilent then _ else s).withReceiver bytes last := ite_withReceiver bytes last hposted rfl
  exact congrArg (fun u : State => { u with mon := { u.mon with silenceFrom := u.now } }) htold

theorem State.handle_withReceiver (s : State) (f : Found) :
    (s.withReceiver bytes last).handle f = (s.handle f).withReceiver bytes last := by
  cases f with
  | frame f =>
    unfold handle validFrame
    dsimp only
    rw [joinFifo_withReceiver, heardFrame_withReceiver]
    exact serveFrames_withReceiver bytes last _ _
  | discard => rfl

end Receiver

end Sys2Proof.Machine
end

section
/-! SUPPORT. A byte received, and a run of bytes examined again: one at a time they bring about what they bring about
together (O7). -/

namespace Sys2Proof.Machine

/-! ## No request takes time -/

theorem releaseCars_now (l : List CarId) (s : State) (n : Nat) : (releaseCars l s n).1.now = s.now := by
  induction l generalizing s n with
  | nil => rfl
  | cons i l ih =>
    unfold releaseCars
    split
    · rw [ih]; simp
    · exact ih _ _

theorem State.fixApplied_now (s : State) (c : Int) (newer : List Capture) : (s.fixApplied c newer).now = s.now := by
  unfold fixApplied fixReported fixMoved
  split <;> simp

theorem request_now {c : Instr} {k tag : Byte} {m : State → Answer} (hm : requestMeaning c = some (k, tag, m))
    (s : State) : (m s).state.now = s.now := by
  have turns {f : State → CarId → State} (h : ∀ s i, (f s i).now = s.now) (l : List CarId) (s : State) :
      (l.foldl f s).now = s.now := foldl_view State.now f h l s
  cases c <;> simp only [requestMeaning, reduceCtorEq, Option.some.injEq, Prod.mk.injEq] at hm <;>
    obtain ⟨-, -, rfl⟩ := hm
  case identify | routeClear | queryTrain => rfl
  case configureTrain => unfold requestConfigureTrain; (repeat' split) <;> simp [turns]
  case setTiltLaw => unfold requestSetTiltLaw; split <;> simp [turns]
  case setTrainSet => unfold requestSetTrainSet; split <;> simp [apply_ite State.now]
  case setModeRun => unfold requestSetModeRun; (repeat' split) <;> simp
  case setModeConfig => unfold requestSetModeConfig; split <;> simp [turns]
  case setPosition => unfold requestSetPosition; (repeat' split) <;> simp
  case positionFix n x =>
    cases hf : findCapture n s.odo.captures with
    | none => rw [requestPositionFix_missing hf]; rfl
    | some found => rw [requestPositionFix_found hf]; exact s.fixApplied_now _ _
  case routeAppend => unfold requestRouteAppend; (repeat' split) <;> simp [State.append]
  case routeTruncate => unfold requestRouteTruncate; (repeat' split) <;> rfl
  case routeConfirm => unfold requestRouteConfirm; split <;> rfl
  case resume =>
    unfold requestResume
    split
    · exact releaseCars_now _ _ _
    · (repeat' split) <;> simp
  case resumeAll => exact releaseCars_now _ _ _
  case readmit => unfold requestReadmit; (repeat' split) <;> simp
  case queryCar => unfold requestQueryCar; split <;> rfl
  case queryRoute => unfold requestQueryRoute; split <;> rfl
  case restart => unfold requestRestart; split <;> rfl

theorem State.handle_now (s : State) (f : Found) : (s.handle f).now = s.now :=
  keeps_handle (P := fun t => t.now = s.now) (fun _ _ h => h)
    (fun _ _ _ _ t hm h => (request_now hm t).trans h) (fun t h => by simpa using h) f rfl

theorem foldl_handle_now (l : List Found) (s : State) : (l.foldl State.handle s).now = s.now :=
  foldl_view State.now State.handle State.handle_now l s

/-! ## Bytes examined one after another (R180) -/

/-- The receiver goes on from the bytes it has kept as it would from all the bytes that came. -/
theorem scan_append {skip : Nat} {l : List Byte} (hskip : skip ≤ l.length) (m : List Byte) :
    scan skip (l ++ m) = ((scan skip l).1 ++ (scan 0 ((scan skip l).2 ++ m)).1, (scan 0 ((scan skip l).2 ++ m)).2) := by
  have whole {len : Byte} {more : List Byte} (h : ¬ (len :: more).length < len.toNat + 5) :
      (len :: (more ++ m)).take (len.toNat + 5) = (len :: more).take (len.toNat + 5)
        ∧ ¬ (len :: (more ++ m)).length < len.toNat + 5 := by
    refine ⟨?_, by simp only [List.length_cons, List.length_append] at h ⊢; omega⟩
    rw [← List.cons_append, List.take_append_of_le_length (by omega)]
  fun_induction scan skip l with
  | case1 skip =>
    obtain rfl : skip = 0 := Nat.le_zero.mp hskip
    rfl
  | case2 skip b rest ih => exact ih (Nat.le_of_succ_le_succ hskip)
  | case3 b rest hb ih => rw [List.cons_append, scan_notSync hb]; exact ih (Nat.zero_le _)
  | case4 b hb => rfl
  | case5 b hb len more hlen r ih =>
    obtain rfl : b = syncByte := not_not.mp hb
    rw [List.cons_append, List.cons_append, scan_long hlen, ← List.cons_append, ih (Nat.zero_le _)]
    rfl
  | case6 b hb len more hlen hmore => rfl
  | case7 b hb len more hlen hmore f hframe r ih =>
    obtain ⟨htake, hlength⟩ := whole hmore
    rw [List.cons_append, List.cons_append, scan, if_neg hb]
    dsimp only
    rw [if_neg hlen, if_neg hlength, htake, hframe]
    dsimp only
    rw [← List.cons_append, ih (Nat.le_of_not_lt hmore)]
    rfl
  | case8 b hb len more hlen hmore hdamaged r ih =>
    obtain ⟨htake, hlength⟩ := whole hmore
    rw [List.cons_append, List.cons_append, scan, if_neg hb]
    dsimp only
    rw [if_neg hlen, if_neg hlength, htake, hdamaged]
    dsimp only
    rw [← List.cons_append, ih (Nat.zero_le _)]
    rfl

/-- Bytes received one at a time, at the time of the last byte, bring about what they bring about when examined
together. -/
theorem foldl_receiveByte {s : State} (hlast : s.ctl.rxLast = s.now)
    (hkept : scan 0 s.ctl.rxBuffer = ([], s.ctl.rxBuffer)) (l : List Byte) :
    l.foldl State.receiveByte s = (scan 0 (s.ctl.rxBuffer ++ l)).1.foldl State.handle
      (s.withReceiver (scan 0 (s.ctl.rxBuffer ++ l)).2 s.now) := by
  induction l generalizing s with
  | nil =>
    rw [List.append_nil, hkept, ← hlast]
    rfl
  | cons b l ih =>
    let found := scan 0 (s.ctl.rxBuffer ++ [b])
    let handled := found.1.foldl State.handle s
    have hnow : handled.now = s.now := foldl_handle_now _ _
    have hbyte : s.receiveByte b = handled.withReceiver found.2 s.now :=
      (State.receiveByte_inTime (.inr (by omega)) b).trans
        (foldl_withReceiver found.2 s.now (State.handle_withReceiver found.2 s.now) found.1 s)
    have hscan : scan 0 (s.ctl.rxBuffer ++ b :: l)
        = (found.1 ++ (scan 0 (found.2 ++ l)).1, (scan 0 (found.2 ++ l)).2) := by
      rw [← scan_append (Nat.zero_le _), List.append_assoc]; rfl
    rw [List.foldl_cons, hbyte, ih (s := handled.withReceiver found.2 s.now) hnow.symm (scan_rest 0 _).1, hscan,
      List.foldl_append, foldl_withReceiver _ _ (State.handle_withReceiver _ _) found.1]
    change List.foldl _ (handled.withReceiver _ handled.now) _ = _
    rw [hnow]
    rfl

/-! ## A byte received (R179, R180) -/

theorem scan_singleton (b : Byte) : scan 0 [b] = ([], if b = 0xC3 then [b] else []) := by
  by_cases hb : b = 0xC3
  · rw [if_pos hb]; subst hb; rfl
  · rw [if_neg hb, scan_notSync hb]; rfl

/-- A byte examined alone is kept as SYNC or passed over. -/
theorem State.receiveByte_hunting {s : State} (hunting : s.ctl.rxBuffer = []) (b : Byte) :
    s.receiveByte b = s.withReceiver (if b = 0xC3 then [b] else []) s.now := by
  rw [receiveByte_inTime (.inl hunting), hunting, List.nil_append, scan_singleton]
  rfl

/-- What the receiver finds as a byte joins those in gathering. -/
theorem State.receiveByte_found {s : State} {l rest : List Byte} {found : List Found} {b : Byte}
    (hl : s.ctl.rxBuffer ++ [b] = l) (hnow : s.now ≤ s.ctl.rxLast + 2000) (hscan : scan 0 l = (found, rest)) :
    s.receiveByte b = found.foldl State.handle (s.withReceiver rest s.now) := by
  rw [receiveByte_inTime (.inr hnow), hl, hscan]
  rfl

theorem State.closeGap_late {s : State} (hne : s.ctl.rxBuffer ≠ []) (hlate : s.ctl.rxLast + 2000 < s.now) :
    s.closeGap = (s.withReceiver [] s.ctl.rxLast).countDiscard := if_pos ⟨hne, hlate⟩

/-- A byte that ends a gap finds the frame discarded and is examined alone. -/
theorem State.receiveByte_late {s : State} (hne : s.ctl.rxBuffer ≠ []) (hlate : s.ctl.rxLast + 2000 < s.now)
    (b : Byte) : s.receiveByte b = s.countDiscard.withReceiver (if b = 0xC3 then [b] else []) s.now := by
  unfold receiveByte
  rw [closeGap_late hne hlate]
  dsimp only
  have hkept : scan 0 ((s.withReceiver [] s.ctl.rxLast).countDiscard.ctl.rxBuffer ++ [b])
      = ([], if b = 0xC3 then [b] else []) := scan_singleton b
  rw [hkept]
  rfl

theorem exec_frameGapTimeout_gathering {s : State} (hne : s.ctl.rxBuffer ≠ []) (hnow : s.now ≤ s.ctl.rxLast + 2001) :
    exec .frameGapTimeout s
      = .next (State.countDiscard { s.withReceiver [] s.ctl.rxLast with now := s.ctl.rxLast + 2001 }) := by
  have hlate : s.ctl.rxLast + 2000 < s.ctl.rxLast + 2001 := by omega
  have hrun : s.runTo (s.ctl.rxLast + gapTime + 1) = { s with now := s.ctl.rxLast + 2001 } := State.runTo_of_le hnow
  simp only [exec, execFrameGapTimeout]
  rw [if_pos hne, hrun, State.closeGap_late (s := { s with now := s.ctl.rxLast + 2001 }) hne hlate]
  rfl

/-- Settles O7: what the receiver finds as each byte comes, and for a damaged frame the bytes after its SYNC examined
together as they are one at a time. -/
theorem huntingAndGaps : Obligations.HuntingAndGaps := by
  intro dt b s now received counted hunted
  have examined (t : State) (h : (s.after dt).receiveByte b = t) : exec (.controlLinkByteReceived dt b) s = .next t :=
    congrArg _ h
  refine ⟨fun hunting => examined _ (State.receiveByte_hunting (s := s.after dt) hunting b),
    fun len body hl hnow => ⟨fun hlong hbody => examined _ ?_, fun hlen hbody => examined _ ?_,
      fun f hlen hf hpayload => examined _ ?_, fun hlen hbody hf => examined _ ?_⟩,
    fun hne hlate => examined _ (State.receiveByte_late (s := s.after dt) hne hlate b),
    fun hne hnow => exec_frameGapTimeout_gathering hne hnow, fun hunting => congrArg _ (if_neg (not_not.mpr hunting))⟩
  · have hb : b = len := by
      have hlast : s.ctl.rxBuffer ++ [b] = [0xC3] ++ [len] := by rw [hl, hbody]; rfl
      exact (List.cons.inj (List.append_inj_right' hlast rfl)).1
    rw [State.receiveByte_found (s := s.after dt) hl hnow (scan_long hlong body), hbody, ← hb, scan_singleton]
    rfl
  · have hkept : scan 0 (s.ctl.rxBuffer ++ [b]) = ([], s.ctl.rxBuffer ++ [b]) := by
      rw [hl]; exact scan_incomplete hlen hbody
    exact State.receiveByte_found (s := s.after dt) rfl hnow hkept
  · have hfound : scan 0 (0xC3 :: len :: body) = ([.frame f], []) := by
      rw [hf]; simpa [scan] using scan_frame (f := f) (by omega) []
    exact State.receiveByte_found (s := s.after dt) hl hnow hfound
  · have hscan := scan_damaged hlen hbody (fun f h => hf f h.symm) []
    rw [List.append_nil] at hscan
    rw [State.receiveByte_found (s := s.after dt) hl hnow hscan, foldl_receiveByte (s := counted) rfl rfl]
    rfl

end Sys2Proof.Machine
end

section
/-! SUPPORT. The frame of a well-formed request read again (O4). -/

namespace Sys2Proof.Machine

/-- Settles O4: each payload's bytes are joined back to the fields they came from, by the codec lemma of its table
(`decodeTrain_bytes`, `decodeLaw_bytes`, `decodeTrainSet_bytes`, `decodeAppend_bytes`, `decodeChainage_bytes32`).
Well-formedness keeps an unknown KIND apart from Table 11-2, an append at 1 to 6 records (R195), and RESUME of a named
car apart from index 0xFF (R105). -/
theorem decodeOfEncodedRequest : Obligations.DecodeOfEncodedRequest :=
  fun _ _ wellFormed encoded => decodeRequest_encodeRequest wellFormed encoded

end Sys2Proof.Machine
end

section
/-! SUPPORT. The command at the front of the queue, and what every command leaves of the queue and of the time base
(O1, O3). -/

namespace Sys2Proof.Machine

/-- Settles O1: with a command queued, `step` takes its first branch. -/
theorem stepRunsFrontCommand : Obligations.StepRunsFrontCommand := by
  intro c rest s queued
  rw [step, queued]

/-! ## The queue (log 2, log 25) -/

theorem releaseCars_pending (l : List CarId) (s : State) (n : Nat) :
    (releaseCars l s n).1.pending = s.pending := by
  induction l generalizing s n with
  | nil => rfl
  | cons i l ih =>
    unfold releaseCars
    split
    · rw [ih]; simp
    · exact ih _ _

theorem frameCars_pending (v : Nat) (l : List CarId) (s : State) (lead : Option Nat) (car0 : Bool) :
    (frameCars v l s lead car0).1.pending = s.pending := by
  induction l generalizing s lead car0 with
  | nil => rfl
  | cons i l ih => rw [frameCars, ih]; simp

theorem State.fixApplied_pending (s : State) (c : Int) (newer : List Capture) :
    (s.fixApplied c newer).pending = s.pending := by
  unfold fixApplied fixReported fixMoved
  split <;> simp

theorem request_pending {c : Instr} {k tag : Byte} {m : State → Answer} (hm : requestMeaning c = some (k, tag, m))
    (s : State) : (m s).state.pending = s.pending := by
  have turns {f : State → CarId → State} (h : ∀ s i, (f s i).pending = s.pending) (l : List CarId) (s : State) :
      (l.foldl f s).pending = s.pending := foldl_view State.pending f h l s
  cases c <;> simp only [requestMeaning, reduceCtorEq, Option.some.injEq, Prod.mk.injEq] at hm <;>
    obtain ⟨-, -, rfl⟩ := hm
  case configureTrain => unfold requestConfigureTrain; (repeat' split) <;> simp [turns]
  case setTiltLaw => unfold requestSetTiltLaw; split <;> simp [turns]
  case setTrainSet => unfold requestSetTrainSet; split <;> simp [apply_ite State.pending]
  case setModeRun => unfold requestSetModeRun; (repeat' split) <;> simp
  case setModeConfig => unfold requestSetModeConfig; split <;> simp [turns]
  case setPosition => unfold requestSetPosition; (repeat' split) <;> simp
  case positionFix n x =>
    cases hf : findCapture n s.odo.captures with
    | none => rw [requestPositionFix_missing hf]; rfl
    | some found => rw [requestPositionFix_found hf]; exact s.fixApplied_pending _ _
  case routeAppend => unfold requestRouteAppend; (repeat' split) <;> simp [State.append]
  case routeTruncate => unfold requestRouteTruncate; (repeat' split) <;> rfl
  case resume =>
    unfold requestResume
    split
    · exact releaseCars_pending _ _ _
    · (repeat' split) <;> simp
  case resumeAll => exact releaseCars_pending _ _ _
  case readmit => unfold requestReadmit; (repeat' split) <;> simp
  case routeConfirm => unfold requestRouteConfirm; split <;> rfl
  case queryCar => unfold requestQueryCar; split <;> rfl
  case queryRoute => unfold requestQueryRoute; split <;> rfl
  case restart => unfold requestRestart; split <;> rfl
  case identify | routeClear | queryTrain => rfl

section Commands

variable {s t : State}

/-- The queue is the one item that a hardware reset does not set (log 25). -/
theorem execHardwareReset_pending {b : Bool} (he : execHardwareReset b s = .next t) : t.pending = s.pending := by
  injection he with he; subst he
  exact State.post_pending _ _ _ _ _

/-- No command touches the queue, a hardware reset included. -/
theorem exec_pending {c : Instr} (he : exec c s = .next t) : t.pending = s.pending := by
  have control := fun hc => keeps_control (P := fun u => u.pending = s.pending) (fun _ _ h => h)
    (fun _ _ _ _ u hm h => (request_pending hm u).trans h) (fun _ h => by simpa using h) (fun _ _ _ h => h)
    (fun u h => by rw [u.restart_eq]; exact h) c hc he rfl
  have polling := fun hc => keeps_polling (P := fun u => u.pending = s.pending) (fun _ _ _ _ h => h)
    (fun _ _ _ h => by simpa using h) c hc he rfl
  cases c
  case hardwareReset => exact execHardwareReset_pending he
  case turnWaitLimit | replyWindowClose | statusReception => exact polling (by simp)
  case markerPulse dt l =>
    injection he with he; subst he
    exact foldl_view State.pending State.markerSample (fun s b => by simp) l (s.after dt)
  case controlFrame =>
    injection he with he; subst he
    simp [frameCars_pending]
  case linkSilentOnset | setpointSend =>
    injection he with he; subst he
    dsimp only
    (repeat' split) <;> simp
  case tachoPulse | tachoStall | comparisonWindow | inhibitSet | inhibitClear | clockWindow | pollCycleExpiry
    | setpointSent =>
    injection he with he; subst he
    (repeat' split) <;> simp
  all_goals exact control (by simp [requestMeaning])

/-! ## The time base (log 1, log 16) -/

/-- No command but a hardware reset takes the time base back: the commands of the odometry and of the control link by
the time they carry or run to, the others as they leave the odometry. -/
theorem exec_now_le {c : Instr} (he : exec c s = .next t) (hreset : ∀ b, c ≠ .hardwareReset b) : s.now ≤ t.now := by
  have control := fun hc => keeps_control (P := fun u => s.now ≤ u.now) (fun _ _ h => h)
    (fun _ _ _ _ u hm h => (request_now hm u).symm ▸ h) (fun _ h => by simpa using h)
    (fun _ _ hn h => Nat.le_trans h hn) (fun u h => Nat.le_trans h u.restart_leavesOdometry.now) c hc he (Nat.le_refl _)
  cases c
  case hardwareReset b => exact absurd rfl (hreset b)
  case tachoPulse | tachoStall | comparisonWindow =>
    injection he with he; subst he
    (repeat' split) <;> simp
  case markerPulse dt l =>
    injection he with he; subst he
    rw [foldl_view State.now State.markerSample (fun s b => by simp) l (s.after dt)]
    exact Nat.le_add_right _ _
  case inhibitSet => exact (execInhibitSet_leavesOdometry he).now
  case inhibitClear => exact (execInhibitClear_leavesOdometry he).now
  case clockWindow => exact (execClockWindow_leavesOdometry he).now
  case linkSilentOnset => exact (execLinkSilentOnset_leavesOdometry he).now
  case controlFrame => exact (execControlFrame_leavesOdometry he).now
  case pollCycleExpiry => exact (execPollCycleExpiry_leavesOdometry he).now
  case setpointSend => exact (execSetpointSend_leavesOdometry he).now
  case setpointSent => exact (execSetpointSent_leavesOdometry he).now
  case turnWaitLimit => exact (execTurnWaitLimit_leavesOdometry he).now
  case replyWindowClose => exact (execReplyWindowClose_leavesOdometry he).now
  case statusReception => exact (execStatusReception_leavesOdometry he).now
  all_goals exact control (by simp [requestMeaning])

end Commands

/-! ## Every command -/

/-- No command stops (log 24): the outcome of each is a next state, whatever the state it is taken in. -/
theorem exec_next (c : Instr) (s : State) : ∃ t, exec c s = .next t := by
  cases c <;> exact ⟨_, rfl⟩

/-- Settles O3: a command's outcome is a next state (`exec_next`), which has the queue of commands as it was
(`exec_pending`) and, but after a hardware reset, no earlier time (`exec_now_le`). -/
theorem everyCommandCompletes : Obligations.EveryCommandCompletes := by
  intro c s
  obtain ⟨t, he⟩ := exec_next c s
  exact ⟨t, he, exec_pending he, exec_now_le he⟩

end Sys2Proof.Machine
end

section
/-! SUPPORT. DRIVE_FAULT under the good replies, and what a car-level cause makes of its car (O48). -/

namespace Sys2Proof.Machine

/-- What leaves the train leaves its TRACKING cars of the train. -/
theorem State.LeavesTrain.trackingConfigured {s t : State} (h : s.LeavesTrain t) (ht : s.TrackingConfigured) :
    t.TrackingConfigured := by
  intro hm i hi
  rw [h.settings]
  exact ht (h.mode ▸ hm) i (h.state i ▸ hi)

section Cases

variable {s : State} {i : CarId} {st : Byte} (code previous : Nat)

/-- A FAULT reply of a car without DRIVE_FAULT (R124). -/
theorem State.followFault_new (h : s.cars[i].driveFault = false) : s.followFault i 2 code previous
    = ((s.setDriveFault i true).carCause i .driveFault s.unit.settings.driveFaultReaction).post .driveFault (some i)
      (u16 code) 1 :=
  (if_pos rfl).trans (if_neg (by rw [h]; nofun))

/-- A FAULT reply of a car with DRIVE_FAULT (R124). -/
theorem State.followFault_again (h : s.cars[i].driveFault = true) : s.followFault i 2 code previous
    = if code ≠ previous then s.post .driveFault (some i) (u16 code) 1 else s :=
  (if_pos rfl).trans (if_pos h)

/-- Another good reply of a car with DRIVE_FAULT (R124). -/
theorem State.followFault_cleared (hst : st ≠ 2) (h : s.cars[i].driveFault = true) : s.followFault i st code previous
    = (s.setDriveFault i false).post .driveFault (some i) (u16 previous) 0 :=
  (if_neg hst).trans (if_pos h)

theorem State.followFault_absent (hst : st ≠ 2) (h : s.cars[i].driveFault = false) :
    s.followFault i st code previous = s :=
  (if_neg hst).trans (if_neg (by rw [h]; nofun))

end Cases

/-- The onset of DRIVE_FAULT: the member, the reaction, then the notice (R90, R91, R124). -/
theorem State.followFault_onset {s : State} (hs : s.CarsSound) {i : CarId} (h : s.cars[i].driveFault = false)
    (code previous : Nat) :
    let caused := CarChannel.caused { s.cars[i] with driveFault := true } .driveFault s.unit.settings.driveFaultReaction
    let t := s.followFault i 2 code previous
    t = { s with cars := s.cars.set i caused, ctl := t.ctl }
      ∧ s.ctl.Reports t.ctl [] ((if caused.state = s.cars[i].state then [] else [s.carNotice i caused.state .driveFault])
          ++ [s.notice .driveFault (some i) (BitVec.ofNat 16 code) 1]) := by
  have marked := s.setDriveFault_leavesTrain i true
  obtain ⟨e, r⟩ := (s.setDriveFault i true).carCause_spec i .driveFault s.unit.settings.driveFaultReaction
    (marked.trackingConfigured hs.trackingConfigured)
    (fun hm => marked.drainComplete (hs.draining (marked.mode ▸ hm)))
  rw [setDriveFault_get, if_pos rfl] at e r
  intro caused t
  have ht : t = _ := State.followFault_new code previous h
  have hpost := State.post_eq ((s.setDriveFault i true).carCause i .driveFault s.unit.settings.driveFaultReaction)
    .driveFault (some i) (u16 code) 1
  have hreports := State.post_reports ((s.setDriveFault i true).carCause i .driveFault
    s.unit.settings.driveFaultReaction) .driveFault (some i) (u16 code) 1
  rw [← ht] at hpost hreports
  refine ⟨?_, ?_⟩
  · rw [e] at hpost
    rw [hpost]
    simp [setDriveFault, setCar, caused]
  · have hnotice : State.notice ((s.setDriveFault i true).carCause i .driveFault s.unit.settings.driveFaultReaction)
        .driveFault (some i) (u16 code) 1 = s.notice .driveFault (some i) (BitVec.ofNat 16 code) 1 := by
      rw [e]; rfl
    rw [hnotice] at hreports
    exact r.trans hreports

/-- What a car-level cause makes of a record, state by state (R91, R92, Table 5-5). -/
theorem CarChannel.caused_cases (r : CarChannel) (cause : LatchReason) (reaction : Reaction) :
    let latches := reaction = .centreAndLatch
    (r.state = .tracking → r.caused cause reaction
        = { r.into .returning with latchReason := if latches then some cause else r.latchReason })
      ∧ (r.state = .centred → latches → r.caused cause reaction = { r.into .latched with latchReason := some cause })
      ∧ (r.state = .returning ∨ r.state = .latched → latches → r.caused cause reaction
        = { r with latchReason := some (if r.latchReason = some .driveFault then .driveFault else cause) })
      ∧ (r.state = .centred ∨ r.state = .returning ∨ r.state = .latched → ¬ latches → r.caused cause reaction = r)
      ∧ (r.state = .offline ∨ r.state = .isolated ∨ r.state = .probing → r.caused cause reaction = r) := by
  unfold caused
  refine ⟨fun h => ?_, fun h hl => ?_, fun h hl => ?_, fun h hl => ?_, fun h => ?_⟩
  · rw [h]
  · rw [h]; exact if_pos hl
  · rcases h with h | h <;> rw [h] <;> exact if_pos hl
  · rcases h with h | h | h <;> rw [h] <;> exact if_neg hl
  · rcases h with h | h | h <;> rw [h]

/-- Settles O48: the onset is `followFault_onset`, a change of the code and the clearing are one notice each, and the
reaction of one car is `CarChannel.caused_cases`. -/
theorem driveFaultFollowsReplies : Obligations.DriveFaultFollowsReplies := by
  refine ⟨?_, ?_⟩
  · intro i state code previous s hs r t caused
    refine ⟨?_, ?_, ?_, ?_⟩
    · rintro rfl hr
      exact State.followFault_onset hs hr code previous
    · rintro rfl hr
      have ht : t = _ := State.followFault_again code previous hr
      by_cases hcode : code = previous
      · rw [if_neg (not_not.mpr hcode)] at ht
        rw [if_pos hcode, ht]
        exact ⟨rfl, .refl _⟩
      · rw [if_pos hcode] at ht
        rw [if_neg hcode, ht]
        exact ⟨State.post_eq _ _ _ _ _, State.post_reports _ _ _ _ _⟩
    · intro hstate hr
      have ht : t = _ := State.followFault_cleared code previous hstate hr
      rw [ht]
      exact ⟨State.post_eq _ _ _ _ _, (s.setDriveFault i false).post_reports _ _ _ _⟩
    · exact fun hstate hr => State.followFault_absent code previous hstate hr
  · intro i cause reaction s r t latches
    have hi : t.cars[i] = r.caused cause reaction := by rw [State.carCause_get, if_pos rfl]
    rw [hi]
    obtain ⟨tracking, centred, held, unmoved, out⟩ := r.caused_cases cause reaction
    refine ⟨fun j hj => ?_, tracking, centred, fun h hl => ?_, unmoved, out⟩
    · rw [State.carCause_get, if_neg (Ne.symm hj)]
    · rw [held h hl]
      refine ⟨fun hr => ?_, fun hr => ?_, fun hr => ?_⟩
      · rw [hr, if_neg nofun]
      · rw [hr, if_neg nofun]
      · rw [if_pos hr, ← hr]

end Sys2Proof.Machine
end

section
/-! SUPPORT. INHIBIT and the silence of the control link: their onsets with the reaction, and their ends (O10, O52). -/

namespace Sys2Proof.Machine

/-- A cause that is told and then reaches every car (R91). -/
theorem State.post_centreAll_spec {s : State} (h : s.TrackingConfigured) (k : NoticeKind) (c : Option CarId)
    (a b : BitVec 16) (cause : CarCause) :
    let t := (s.post k c a b).centreAll cause
    t = { s with cars := s.cars.map CarChannel.centred, ctl := t.ctl }
      ∧ s.ctl.Reports t.ctl [] (s.notice k c a b :: s.trackingCars.map (fun i => s.carNotice i .returning cause)) := by
  have hpost := s.post_eq k c a b
  have rpost := s.post_reports k c a b
  generalize s.post k c a b = told at hpost rpost
  have htold : told.TrackingConfigured := by rw [hpost]; exact h
  obtain ⟨ecentre, rcentre⟩ := told.centreAll_spec cause htold
  have r := rpost.trans rcentre
  generalize told.centreAll cause = t at ecentre r
  rw [hpost] at ecentre r
  exact ⟨ecentre, r⟩

/-! ## The filter of INHIBIT (R150) -/

section Filter

variable {level sample : Bool} {run n : Nat}

theorem filterRun_same (hn : 1 ≤ n) (hl : sample = level) : filterRun level run sample n = (level, 0, false) := by
  rw [filterRun, if_neg (by omega), if_pos hl]

theorem filterRun_short (hn : 1 ≤ n) (hl : sample ≠ level) (hr : run + n < 3) :
    filterRun level run sample n = (level, run + n, false) := by
  rw [filterRun, if_neg (by omega), if_neg hl, if_neg (by omega)]

theorem filterRun_flips (hn : 1 ≤ n) (hl : sample ≠ level) (hr : 3 ≤ run + n) :
    filterRun level run sample n = (sample, 0, true) := by
  rw [filterRun, if_neg (by omega), if_neg hl, if_pos hr]

end Filter

/-- High samples on a filter whose answer is known (R150, R151). -/
theorem execInhibitSet_filtered {s : State} {n run : Nat} {level flips : Bool}
    (h : filterRun s.mon.inhibitLevel s.mon.inhibitRun true n = (level, run, flips)) (dt : Nat) :
    let heard : State := { s with now := s.now + dt, mon := { s.mon with inhibitLevel := level, inhibitRun := run } }
    execInhibitSet dt n s = .next (if flips then
      (({ heard with mon := { heard.mon with inhibit := true } }).post .inhibit none 1 0).centreAll .inhibit
      else heard) := by
  simp only [execInhibitSet, State.after_mon, h]
  rfl

/-- Low samples on a filter whose answer is known (R150, R152). -/
theorem execInhibitClear_filtered {s : State} {n run : Nat} {level flips : Bool}
    (h : filterRun s.mon.inhibitLevel s.mon.inhibitRun false n = (level, run, flips)) (dt : Nat) :
    let heard : State := { s with now := s.now + dt, mon := { s.mon with inhibitLevel := level, inhibitRun := run } }
    execInhibitClear dt n s = .next (if flips then
      ({ heard with mon := { heard.mon with inhibit := false } }).post .inhibit none 0 0 else heard) := by
  simp only [execInhibitClear, State.after_mon, h]
  rfl

/-- Settles O52: the filter keeps its level (`filterRun_same`, `filterRun_short`) or changes it (`filterRun_flips`). -/
theorem inhibitFollowsTheFilter : Obligations.InhibitFollowsTheFilter := by
  intro dt n s hn hs run
  refine ⟨fun hl => ?_, fun hl hr => ?_, fun hl hr => ?_, fun hl => ?_, fun hl hr => ?_, fun hl hr => ?_⟩
  · exact execInhibitSet_filtered (filterRun_same hn hl.symm) dt
  · exact execInhibitSet_filtered (filterRun_short hn (by rw [hl]; nofun) hr) dt
  · let raised : State := { s with
      now := s.now + dt, mon := { s.mon with inhibitLevel := true, inhibitRun := 0, inhibit := true } }
    have he : exec (.inhibitSet dt n) s = .next ((raised.post .inhibit none 1 0).centreAll .inhibit) :=
      execInhibitSet_filtered (filterRun_flips hn (by rw [hl]; nofun) hr) dt
    exact ⟨_, he, State.post_centreAll_spec (s := raised) hs.trackingConfigured .inhibit none 1 0 .inhibit⟩
  · exact execInhibitClear_filtered (filterRun_same hn hl.symm) dt
  · exact execInhibitClear_filtered (filterRun_short hn (by rw [hl]; nofun) hr) dt
  · let lowered : State := { s with
      now := s.now + dt, mon := { s.mon with inhibitLevel := false, inhibitRun := 0, inhibit := false } }
    have he : exec (.inhibitClear dt n) s = .next (lowered.post .inhibit none 0 0) :=
      execInhibitClear_filtered (filterRun_flips hn (by rw [hl]; nofun) hr) dt
    exact ⟨_, he, lowered.post_eq _ _ _ _, lowered.post_reports _ _ _ _⟩

/-! ## The silence of the control link (R157 to R159) -/

/-- The onset of LINK_SILENT, a centring cause only under SILENCE_REACTION CENTRE (R158). -/
theorem execLinkSilentOnset_silent {s : State} (hm : s.unit.mode ≠ .config) (hl : s.mon.linkSilent = false)
    (hnow : s.now ≤ s.mon.silenceFrom + s.unit.settings.silenceTime * 1000) :
    let silent : State := { s with
      now := s.mon.silenceFrom + s.unit.settings.silenceTime * 1000, mon := { s.mon with linkSilent := true } }
    execLinkSilentOnset s = .next (if s.unit.settings.silenceReaction = .centre then silent.centreAll .linkSilent
      else silent) := by
  unfold execLinkSilentOnset
  rw [if_pos ⟨hm, hl⟩, State.runTo_of_le hnow]
  simp [State.silenceCentres]

/-- The end of a silence at a valid frame (R157, R159). -/
theorem State.heardFrame_spec (s : State) :
    s.heardFrame = { s with
      mon := { s.mon with linkSilent := false, silenceFrom := s.now }, ctl := s.heardFrame.ctl }
    ∧ s.ctl.Reports s.heardFrame.ctl [] (if s.mon.linkSilent then
        [s.notice .linkSilentEnd none (u16 s.silenceTimer) (u16 s.unit.settings.silenceReaction.code)] else []) := by
  unfold heardFrame
  dsimp only
  cases hl : s.mon.linkSilent with
  | true =>
    have hpost := State.post_eq { s with mon := { s.mon with linkSilent := false } } .linkSilentEnd none
      (u16 s.silenceTimer) (u16 s.unit.settings.silenceReaction.code)
    have hreports := State.post_reports { s with mon := { s.mon with linkSilent := false } } .linkSilentEnd none
      (u16 s.silenceTimer) (u16 s.unit.settings.silenceReaction.code)
    generalize State.post { s with mon := { s.mon with linkSilent := false } } .linkSilentEnd none
      (u16 s.silenceTimer) (u16 s.unit.settings.silenceReaction.code) = told at hpost hreports
    rw [if_pos rfl, if_pos rfl]
    exact ⟨by rw [hpost], hreports⟩
  | false =>
    rw [if_neg nofun, if_neg nofun]
    exact ⟨by rw [← hl], .refl _⟩

theorem SilenceReaction.code_eq (r : SilenceReaction) : r.code = if r = .centre then 1 else 0 := by
  cases r <;> rfl

/-- Settles O10: the onset, where it sets nothing, and the end at a valid frame. -/
theorem linkSilenceSetAndEnded : Obligations.LinkSilenceSetAndEnded := by
  refine ⟨fun s hm hl hs hnow => ?_, fun s h => ?_, fun s => ?_⟩
  · have he := execLinkSilentOnset_silent hm hl hnow
    let silent : State := { s with
      now := s.mon.silenceFrom + s.unit.settings.silenceTime * 1000, mon := { s.mon with linkSilent := true } }
    refine ⟨_, he, ?_⟩
    split
    · exact silent.centreAll_spec .linkSilent hs.trackingConfigured
    · exact ⟨rfl, .refl _⟩
  · have hno : ¬ (s.unit.mode ≠ .config ∧ s.mon.linkSilent = false) := by
      rintro ⟨hm, hl⟩
      rcases h with h | h
      · exact hm h
      · rw [hl] at h; cases h
    exact congrArg Host.Outcome.next (if_neg hno)
  · have h := s.heardFrame_spec
    rw [SilenceReaction.code_eq] at h
    exact h

end Sys2Proof.Machine
end

section
/-! SUPPORT. A transaction that fails: the health counter, the warning, isolation and the failed probe (O45). -/

namespace Sys2Proof.Machine

/-! ## The commands that end a transaction without a reply (R115, R117) -/

section Ends

variable {s : State} {c : PollCycle}

/-- A turn whose line is not idle in time is a miss (R115). -/
theorem exec_turnWaitLimit_late {turnAt : Nat} (hc : s.link.cycle = some c) (hp : c.phase = .waiting turnAt)
    (h : turnAt + 4000 < max turnAt s.link.lineIdleFrom + 20) (hnow : s.now ≤ turnAt + 4000) :
    exec .turnWaitLimit s = .next (State.finish { s with now := turnAt + 4000 } c .miss) := by
  have hlate := (lineIdleInTime_iff turnAt s.link.lineIdleFrom).not.mpr (Nat.not_le.mpr h)
  have hrun : s.runTo (turnAt + turnWaitLimit) = { s with now := turnAt + 4000 } := State.runTo_of_le hnow
  simp only [exec, execTurnWaitLimit, hc, hp, if_neg hlate, hrun]

/-- A window that closes with no byte received is a miss (R117). -/
theorem exec_replyWindowClose_window {opened : Nat} {q : Byte} (hc : s.link.cycle = some c)
    (hp : c.phase = .window opened q) (hnow : s.now ≤ opened + 1000) :
    exec .replyWindowClose s = .next (State.finish { s with now := opened + 1000 } c .miss) := by
  have hrun : s.runTo (opened + replyWindow) = { s with now := opened + 1000 } := State.runTo_of_le hnow
  simp only [exec, execReplyWindowClose, hc, hp, hrun]

end Ends

/-! ## A change of state that ends a drain (R100) -/

theorem State.drainEnds_iff (s : State) (cars : Vector CarChannel 8) :
    s.drainEnds cars ↔ s.unit.mode = .draining ∧ s.doneIn cars = true := by
  simp only [drainEnds, doneIn_iff, mem_configured]

/-- An event that ends with the completion test, MODE coming last (R100, log 12). -/
theorem State.settle_after {s u : State} {cars : Vector CarChannel 8} {told : List Notice}
    (e : u = { s with cars := cars, ctl := u.ctl }) (r : s.ctl.Reports u.ctl [] told) :
    u.settle = { s with cars := cars, unit := u.settle.unit, ctl := u.settle.ctl }
      ∧ (s.drainEnds cars → u.settle.unit = { s.unit with mode := .config }
        ∧ s.ctl.Reports u.settle.ctl [] (told ++ [s.modeNotice .config .draining]))
      ∧ (¬ s.drainEnds cars → u.settle.unit = s.unit ∧ s.ctl.Reports u.settle.ctl [] told) := by
  obtain ⟨e', r'⟩ := u.settle_spec
  have r := r.trans r'
  have hends : (u.unit.mode = .draining ∧ u.drainComplete = true) ↔ s.drainEnds cars := by
    rw [drainEnds_iff, e]; rfl
  have hmode : u.modeNotice .config .draining = s.modeNotice .config .draining := by rw [e]; rfl
  rw [hmode] at r
  generalize u.settle = t at e' r
  by_cases h : s.drainEnds cars
  · rw [if_pos (hends.mpr h)] at e' r
    rw [e] at e'
    exact ⟨by rw [e'], fun _ => ⟨by rw [e'], r⟩, fun hn => absurd h hn⟩
  · rw [if_neg (hends.not.mpr h)] at e' r
    rw [List.append_nil told] at r
    rw [e] at e'
    exact ⟨by rw [e'], fun hp => absurd hp h, fun _ => ⟨by rw [e'], r⟩⟩

/-- A car becomes ISOLATED and is reported (R102, R123, R127). -/
theorem State.isolated_spec (s : State) (i : CarId) (cause : CarCause) (probe corrupt : Bool) :
    let cars := s.cars.set i (s.cars[i].into .isolated)
    let told := [s.carNotice i .isolated cause, s.notice .isolated (some i) (if probe then 1 else 0)
      (if corrupt then 1 else 0)]
    let t := ((s.enter i .isolated cause).postIsolated i probe corrupt).settle
    t = { s with cars := cars, unit := t.unit, ctl := t.ctl }
      ∧ (s.drainEnds cars → t.unit = { s.unit with mode := .config }
        ∧ s.ctl.Reports t.ctl [] (told ++ [s.modeNotice .config .draining]))
      ∧ (¬ s.drainEnds cars → t.unit = s.unit ∧ s.ctl.Reports t.ctl [] told) := by
  have e := s.enter_eq i .isolated cause
  have r := s.enter_reports i .isolated cause
  generalize s.enter i .isolated cause = u at e r
  have hcodes : u.postIsolated i probe corrupt
      = u.post .isolated (some i) (if probe then 1 else 0) (if corrupt then 1 else 0) := by
    cases probe <;> cases corrupt <;> rfl
  have epost := u.post_eq .isolated (some i) (if probe then 1 else 0) (if corrupt then 1 else 0)
  have rpost := r.trans (u.post_reports .isolated (some i) (if probe then 1 else 0) (if corrupt then 1 else 0))
  rw [hcodes]
  generalize u.post .isolated (some i) (if probe then 1 else 0) (if corrupt then 1 else 0) = v at epost rpost
  rw [e] at epost rpost
  exact settle_after epost rpost

/-! ## A miss or a corrupt reply (R120 to R123, R127) -/

section Fails

variable {s : State} {i : CarId}

/-- Six points of health, with the warning at 40 and HEALTH_REDUCE at 80 (R120 to R122). -/
theorem State.failReply_counted (h : s.link.drives[i].health + 6 < 160) (corrupt : Bool) :
    let d := s.link.drives[i]
    let n := d.health + 6
    let t := s.failReply i corrupt
    t = { s with
        cars := s.cars.set i { s.cars[i] with healthReduce := decide (80 ≤ n) }
        link := { s.link with drives := s.link.drives.set i { d with
          health := n, warned := d.warned || decide (40 ≤ n) } }
        ctl := t.ctl }
      ∧ s.ctl.Reports t.ctl [] (if 40 ≤ n ∧ d.warned = false then
          [s.notice .healthWarning (some i) (BitVec.ofNat 16 n) 0] else []) := by
  intro d n t
  by_cases hw : 40 ≤ n ∧ d.warned = false
  · have ht : t = (s.setHealth i n true).post .healthWarning (some i) (u16 n) 0 := by
      simp only [t, failReply]
      rw [if_neg (by omega), if_pos hw]
    have hwarned : (d.warned || decide (40 ≤ n)) = true := by simp [hw.1]
    rw [if_pos hw, ht, hwarned]
    exact ⟨State.post_eq _ _ _ _ _, (s.setHealth i n true).post_reports _ _ _ _⟩
  · have ht : t = s.setHealth i n d.warned := by
      simp only [t, failReply]
      rw [if_neg (by omega), if_neg hw]
    have hwarned : (d.warned || decide (40 ≤ n)) = d.warned := by
      cases hd : d.warned with
      | true => rfl
      | false => simpa [hd] using hw
    rw [if_neg hw, ht, hwarned]
    exact ⟨rfl, .refl _⟩

/-- Isolation of a car in service, its counter at 160 (R102, R123). -/
theorem State.failReply_isolates (h : 160 ≤ s.link.drives[i].health + 6) (corrupt : Bool) :
    let cars := s.cars.set i { s.cars[i].into .isolated with
      theta := 0, omega := 0, latchReason := none, healthReduce := true }
    let told := [s.carNotice i .isolated .isolation, s.notice .isolated (some i) 0 (if corrupt then 1 else 0)]
    let t := s.failReply i corrupt
    t = { s with
        cars := cars
        link := { s.link with drives := s.link.drives.set i { s.link.drives[i] with health := 160, probing := 0 } }
        sup := { s.sup with persistence := s.sup.persistence.set i 0 }
        unit := t.unit, ctl := t.ctl }
      ∧ (s.drainEnds cars → t.unit = { s.unit with mode := .config }
        ∧ s.ctl.Reports t.ctl [] (told ++ [s.modeNotice .config .draining]))
      ∧ (¬ s.drainEnds cars → t.unit = s.unit ∧ s.ctl.Reports t.ctl [] told) := by
  let u : State := { s with
    cars := s.cars.set i { s.cars[i] with theta := 0, omega := 0, latchReason := none, healthReduce := true }
    link := { s.link with drives := s.link.drives.set i { s.link.drives[i] with health := 160, probing := 0 } }
    sup := { s.sup with persistence := s.sup.persistence.set i 0 } }
  have ht : s.failReply i corrupt = ((u.enter i .isolated .isolation).postIsolated i false corrupt).settle := by
    simp only [failReply, if_pos h]
    simp [isolate, setHealth, setCar, setDrive, setPersistence, u]
  have hcars : u.cars.set i (u.cars[i].into .isolated) = s.cars.set i { s.cars[i].into .isolated with
      theta := 0, omega := 0, latchReason := none, healthReduce := true } := by simp [u, CarChannel.into]
  have hspec := u.isolated_spec i .isolation false corrupt
  rw [← ht, hcars] at hspec
  exact hspec

/-- The failed probe (R127, Table 6-4). -/
theorem State.failProbe_spec (s : State) (i : CarId) (corrupt : Bool) :
    let cars := s.cars.set i { s.cars[i].into .isolated with healthReduce := true }
    let told := [s.carNotice i .isolated .probeFailed, s.notice .isolated (some i) 1 (if corrupt then 1 else 0)]
    let t := s.failProbe i corrupt
    t = { s with
        cars := cars
        link := { s.link with drives := s.link.drives.set i { s.link.drives[i] with
          health := 160, warned := true, probing := 0 } }
        unit := t.unit, ctl := t.ctl }
      ∧ (s.drainEnds cars → t.unit = { s.unit with mode := .config }
        ∧ s.ctl.Reports t.ctl [] (told ++ [s.modeNotice .config .draining]))
      ∧ (¬ s.drainEnds cars → t.unit = s.unit ∧ s.ctl.Reports t.ctl [] told) := by
  let u : State := { s with
    cars := s.cars.set i { s.cars[i] with healthReduce := true }
    link := { s.link with drives := s.link.drives.set i { s.link.drives[i] with
      health := 160, warned := true, probing := 0 } } }
  have ht : s.failProbe i corrupt = ((u.enter i .isolated .probeFailed).postIsolated i true corrupt).settle := by
    simp [failProbe, setHealth, setDrive, u]
  have hcars : u.cars.set i (u.cars[i].into .isolated)
      = s.cars.set i { s.cars[i].into .isolated with healthReduce := true } := by simp [u, CarChannel.into]
  have hspec := u.isolated_spec i .probeFailed true corrupt
  rw [← ht, hcars] at hspec
  exact hspec

end Fails

/-! ## The end of the transaction (R119) -/

/-- How a transaction without a good reply ends. -/
def failure (corrupt : Bool) : TransactionEnd := if corrupt then .corrupt else .miss

section Outcome

variable {s : State} {i : CarId}

theorem State.applyOutcome_failReply (hp : s.cars[i].state.polled = true) (h : s.cars[i].state ≠ .probing)
    (corrupt : Bool) : s.applyOutcome i (failure corrupt) = s.failReply i corrupt := by
  cases corrupt <;> exact (if_pos hp).trans (if_neg h)

theorem State.applyOutcome_failProbe (h : s.cars[i].state = .probing) (corrupt : Bool) :
    s.applyOutcome i (failure corrupt) = s.failProbe i corrupt := by
  have hp : s.cars[i].state.polled = true := by rw [h]; rfl
  cases corrupt <;> exact (if_pos hp).trans (if_pos h)

end Outcome

/-- A transaction that ends in a state known in other words (R113, R114). -/
theorem State.turned_eq {u v : State} (e : u = v) (c : PollCycle) :
    let t : State := { u with link := u.linkAfter c u.link }
    t = { v with link := t.linkAfter c v.link } := by
  subst e; rfl

/-- Settles O45: each of the commands ends the transaction as failed, the outcome is that of `failReply_counted`,
`failReply_isolates` or `failProbe_spec`, and the next turn comes. -/
theorem failedTransactionCounted : Obligations.FailedTransactionCounted := by
  intro cmd corrupt ends idleFrom c s hc hends hnow i r d h code link
  let ended : State := { s with now := ends, link := link }
  let done := ended.applyOutcome i (failure corrupt)
  have he : exec cmd s = .next (ended.finish c (failure corrupt)) := by
    rcases hends with ⟨rfl, rfl, rfl, turnAt, hp, rfl, hlate⟩ | ⟨rfl, rfl, rfl, opened, q, hp, rfl⟩
      | ⟨rfl, q, received, hreception, hjudged⟩
    · exact exec_turnWaitLimit_late hc hp hlate hnow
    · exact exec_replyWindowClose_window hc hp hnow
    · rw [exec_of_receptionEnds hc hreception, hjudged]; rfl
  have hfinish : ended.finish c (failure corrupt) = { done with link := done.linkAfter c done.link } :=
    done.endTransaction_eq c
  rw [hfinish] at he
  refine ⟨_, he, fun hpolled => ?_, fun hpolled hprobing hh => ?_, fun hpolled hprobing hh => ?_, fun hprobing => ?_⟩
  · have hdone : done = ended := State.applyOutcome_unpolled (s := ended) hpolled _
    exact State.turned_eq hdone c
  · have hdone : done = ended.failReply i corrupt := State.applyOutcome_failReply (s := ended) hpolled hprobing _
    obtain ⟨e, reports⟩ := State.failReply_counted (s := ended) (i := i) hh corrupt
    rw [← hdone] at e reports
    exact ⟨State.turned_eq e c, reports⟩
  · have hdone : done = ended.failReply i corrupt := State.applyOutcome_failReply (s := ended) hpolled hprobing _
    obtain ⟨e, ends, stays⟩ := State.failReply_isolates (s := ended) (i := i) hh corrupt
    rw [← hdone] at e ends stays
    have hcars : done.cars = _ := congrArg State.cars e
    refine ⟨State.turned_eq e c, ?_⟩
    dsimp only
    rw [hcars]
    exact ⟨ends, stays⟩
  · have hdone : done = ended.failProbe i corrupt := State.applyOutcome_failProbe (s := ended) hprobing _
    obtain ⟨e, ends, stays⟩ := ended.failProbe_spec i corrupt
    rw [← hdone] at e ends stays
    have hcars : done.cars = _ := congrArg State.cars e
    refine ⟨State.turned_eq e c, ?_⟩
    dsimp only
    rw [hcars]
    exact ⟨ends, stays⟩

end Sys2Proof.Machine
end

section
/-! SUPPORT. READMIT and the probe, and the cars that a running cycle leaves to the next one (O49). -/

namespace Sys2Proof.Machine

/-! ## Left to the next cycle (R113, R126, R171) -/

/-- What a running cycle keeps, in the statements' words (log 35). -/
theorem State.leaveToNextCycle_eq (s : State) (joins : CarId → Bool) :
    s.leaveToNextCycle joins = { s with link := s.linkLeaving joins s.link } := by
  unfold leaveToNextCycle linkLeaving
  cases hc : s.link.cycle with
  | none => rfl
  | some c =>
    dsimp only
    cases c.phase with
    | waiting turnAt =>
      cases joins c.current with
      | true => exact s.endTransaction_eq _
      | false => rfl
    | sending sentAt f => cases joins c.current <;> rfl
    | window opened q => cases joins c.current <;> rfl
    | receiving opened q held => cases joins c.current <;> rfl

/-- The answer to a request that leaves cars to the next cycle, its own state known in other words. -/
theorem State.leaving_replied {u v : State} (e : u = v) (joins : CarId → Bool) (r : Reply) :
    let t := (u.leaveToNextCycle joins).replied r
    t = { v with link := t.linkLeaving joins v.link, ctl := t.ctl } := by
  subst e
  rw [leaveToNextCycle_eq]
  rfl

theorem State.leaving_reports {c : ControlLink} {u : State} {ns : List Notice} (h : c.Reports u.ctl [] ns)
    (joins : CarId → Bool) (r : Reply) : c.Reports ((u.leaveToNextCycle joins).replied r).ctl [r] ns := by
  have hr := h.trans (State.replied_reports { u with link := u.linkLeaving joins u.link } r)
  rw [leaveToNextCycle_eq]
  rwa [List.append_nil] at hr

/-! ## READMIT (R103, R126) -/

/-- The state of READMIT before the cycle in progress is told: the counter at 0, and the car PROBING (R126). -/
def State.readmitted (s : State) (i : CarId) : State :=
  let u := s.setHealth i 0 false
  (u.setDrive i { u.link.drives[i] with probing := 0 }).transition i .probing .readmit

section Readmit

variable {s : State} {i : CarId}

theorem requestReadmit_isolated {car : Byte} (hcar : s.namedCar car = some i) (h : s.cars[i].state = .isolated) :
    requestReadmit car s = .done ((s.readmitted i).leaveToNextCycle (fun j => j == i)) := by
  rw [requestReadmit, hcar]
  exact if_neg (not_not.mpr h)

/-- An ISOLATED car becomes PROBING, its counter at 0 and its warning cleared (R103, R126). -/
theorem State.readmitted_spec (hs : s.CarsSound) (h : s.cars[i].state = .isolated) :
    let t := s.readmitted i
    t = { s with
        cars := s.cars.set i { s.cars[i].into .probing with healthReduce := false }
        link := { s.link with drives := s.link.drives.set i { s.link.drives[i] with
          health := 0, warned := false, probing := 0 } }
        ctl := t.ctl }
      ∧ s.ctl.Reports t.ctl [] [s.carNotice i .probing .readmit] := by
  intro t
  let u := s.setHealth i 0 false
  let v : State := u.setDrive i { u.link.drives[i] with probing := 0 }
  have kept : s.LeavesTrain v :=
    (s.setHealth_leavesTrain i 0 false).trans (u.setDrive_leavesTrain i { u.link.drives[i] with probing := 0 })
  have ht : t = v.enter i .probing .readmit :=
    v.transition_same i .probing .readmit (fun hm => kept.drainComplete (hs.draining (kept.mode ▸ hm)))
      (by rw [kept.state i, h]; rfl)
  have hcars : v.cars.set i (v.cars[i].into .probing)
      = s.cars.set i { s.cars[i].into .probing with healthReduce := false } := by
    simp [v, u, CarChannel.into]
  have hdrives : v.link = { s.link with drives := s.link.drives.set i { s.link.drives[i] with
      health := 0, warned := false, probing := 0 } } := by
    simp [v, u]
  have e := v.enter_eq i .probing .readmit
  have r := v.enter_reports i .probing .readmit
  rw [← ht, hcars, hdrives] at e
  rw [← ht] at r
  exact ⟨e, r⟩

end Readmit

/-! ## The probe (R127, Table 6-4) -/

section Probe

variable {s : State} {i : CarId}

/-- DRIVE_FAULT of a PROBING car comes and goes without a reaction (Table 5-5). -/
theorem State.followFault_leavesTrain (h : s.cars[i].state = .probing) (st : Byte) (code previous : Nat) :
    s.LeavesTrain (s.followFault i st code previous) := by
  have unmoved : ∀ u : State, u.cars[i].state = .probing → ∀ cause reaction, u.carCause i cause reaction = u := by
    intro u hu cause reaction
    unfold carCause; rw [hu]
  have marked : ∀ b, s.LeavesTrain (s.setDriveFault i b) := s.setDriveFault_leavesTrain i
  unfold followFault
  split
  · split
    · split
      · exact s.post_leavesTrain _ _ _ _
      · exact .refl s
    · dsimp only
      rw [unmoved _ (((marked true).state i).trans h)]
      exact (marked true).trans (State.post_leavesTrain _ _ _ _ _)
  · split
    · exact (marked false).trans (State.post_leavesTrain _ _ _ _ _)
    · exact .refl s

/-- A good reply of a PROBING car: DRIVE_FAULT as in service, then the count (R124, R127). -/
theorem State.applyGood_probing {heard : State} {r : DriveReport} (h : s.cars[i].state = .probing)
    (hheard : (s.healReply i).setDrive i { (s.healReply i).link.drives[i] with lastGood := some r } = heard)
    (st : Byte) :
    s.applyGood i st r
      = (heard.followFault i st r.faultCode s.link.drives[i].lastCode).countProbe i st r.tilt := by
  have hprobing : (s.cars[i].state == .probing) = true := by rw [h]; rfl
  simp only [applyGood, hprobing, hheard]
  simp

variable {st : Byte} {tilt : Int}

/-- A reply that does not end the probe counts on, or starts the count again (R127). -/
theorem State.countProbe_goes (h : ¬ ((st = 1 ∧ tilt.natAbs ≤ 50) ∧ 15 ≤ s.link.drives[i].probing)) :
    s.countProbe i st tilt = s.setDrive i { s.link.drives[i] with
      probing := if st = 1 ∧ tilt.natAbs ≤ 50 then s.link.drives[i].probing + 1 else 0 } := by
  unfold countProbe driveLockedCode
  dsimp only
  by_cases hl : st = 1 ∧ tilt.natAbs ≤ 50
  · rw [if_pos hl, if_pos hl, if_neg (by intro hn; exact h ⟨hl, by omega⟩)]
  · rw [if_neg hl, if_neg hl]

/-- The sixteenth reply in a row ends the probe (R127). -/
theorem State.countProbe_passes (h : (st = 1 ∧ tilt.natAbs ≤ 50) ∧ 15 ≤ s.link.drives[i].probing) :
    s.countProbe i st tilt
      = (s.setDrive i { s.link.drives[i] with probing := 0 }).transition i .centred .probePassed := by
  unfold countProbe driveLockedCode
  dsimp only
  rw [if_pos h.1, if_pos (by omega)]

end Probe

/-- Settles O49: READMIT by its checks and `readmitted_spec`; a good reply of a PROBING car by `applyGood_probing`, with
the count of `countProbe_goes` and `countProbe_passes`. -/
theorem carReadmittedAndProbed : Obligations.CarReadmittedAndProbed := by
  refine ⟨?_, ?_⟩
  · intro tag car s hready hs
    have hexec := exec_ready (c := .readmit tag car) rfl hready
    refine ⟨fun hcar => ?_, fun i hcar hi => ⟨fun hstate => ?_, fun hstate => ?_⟩⟩
    · rw [hexec, requestReadmit, State.namedCar_none hcar]; rfl
    · rw [hexec, requestReadmit, State.namedCar_some hcar hi]
      dsimp only
      rw [if_pos hstate]; rfl
    · obtain ⟨e, r⟩ := State.readmitted_spec hs hstate
      rw [hexec, requestReadmit_isolated (State.namedCar_some hcar hi) hstate]
      exact ⟨_, rfl, State.leaving_replied e _ _, State.leaving_reports r _ _⟩
  · intro i st report s hs hstate r d h previous drive heard followed t locked counted
    have hheard : (s.healReply i).setDrive i { (s.healReply i).link.drives[i] with lastGood := some report } = heard :=
      s.healReply_stored i report
    have healed : s.LeavesTrain heard := hheard ▸ (s.setHealth_leavesTrain i _ _).trans (State.setDrive_leavesTrain _ i _)
    have left : s.LeavesTrain followed :=
      healed.trans (State.followFault_leavesTrain ((healed.state i).trans hstate) st _ _)
    have hfollowed : followed.cars[i].state = .probing := (left.state i).trans hstate
    have ht : t = followed.countProbe i st report.tilt :=
      (State.applyOutcome_good (by rw [hstate]; rfl) st report).trans (State.applyGood_probing hstate hheard st)
    have hlink : followed.link = heard.link := by simp [followed]
    have hdrive : followed.link.drives[i] = drive := by simp [hlink, heard]
    have hset : ∀ n, followed.setDrive i { drive with probing := n } = { followed with link := counted n } := by
      intro n
      have hdrives : s.link.drives.set i { drive with probing := n }
          = (s.link.drives.set i drive).set i { drive with probing := n } := by simp
      simp only [counted, hdrives, State.setDrive, hlink]
      rfl
    refine ⟨hfollowed, fun hgoes => ?_, fun hpasses => ?_⟩
    · rw [ht, State.countProbe_goes (by rw [hdrive]; exact hgoes), hdrive, hset]
    · have hpassed : t = { followed with link := counted 0 }.transition i .centred .probePassed := by
        rw [ht, State.countProbe_passes (by rw [hdrive]; exact hpasses), hdrive, hset]
      have hsame : t = { followed with link := counted 0 }.enter i .centred .probePassed :=
        hpassed.trans (State.transition_same _ i .centred _
          (fun hm => left.drainComplete (hs.draining (left.mode ▸ hm))) (by rw [hfollowed]; rfl))
      rw [hsame]
      exact ⟨State.enter_eq _ i .centred .probePassed,
        State.enter_reports { followed with link := counted 0 } i .centred .probePassed⟩

end Sys2Proof.Machine
end

section
/-! SUPPORT. Turns of the cars one after another, each of which changes its own car's record and posts its own
notices. -/

namespace Sys2Proof.Machine

/-- In a car's turn its record becomes `c`, and these notices are posted. -/
structure State.CarTurn (s : State) (i : CarId) (c : CarChannel) (told : List Notice) (t : State) : Prop where
  eq : t = { s with cars := s.cars.set i c, ctl := t.ctl }
  reports : s.ctl.Reports t.ctl [] told

section CarTurn

variable {s t u : State} {i : CarId} {c : CarChannel} {told : List Notice}

/-- A turn that leaves everything. -/
theorem State.CarTurn.still (s : State) (i : CarId) : s.CarTurn i s.cars[i] [] s where
  eq := by simp
  reports := .refl _

theorem State.CarTurn.get (h : s.CarTurn i c told t) (j : CarId) : t.cars[j] = if i = j then c else s.cars[j] := by
  rw [h.eq]
  exact s.setCar_get i j c

/-- A record is written, and its car enters a state with the notice of it (R109). -/
theorem State.setCar_enter_turn (s : State) (i : CarId) (c : CarChannel) (st : CarState) (cause : CarCause) :
    s.CarTurn i (c.into st) [s.carNotice i st cause] ((s.setCar i c).enter i st cause) where
  eq := by
    rw [enter_eq (s.setCar i c), setCar_get, if_pos rfl]
    simp [setCar]
  reports := (s.setCar i c).enter_reports i st cause

/-- A record is written, and a notice posted. -/
theorem State.setCar_post_turn (s : State) (i : CarId) (c : CarChannel) (k : NoticeKind) (n : Option CarId)
    (a b : BitVec 16) : s.CarTurn i c [s.notice k n a b] ((s.setCar i c).post k n a b) where
  eq := (s.setCar i c).post_eq k n a b
  reports := (s.setCar i c).post_reports k n a b

/-- A drain that no car's turn has completed. -/
def State.Unfinished (s : State) : Prop := s.unit.mode = .draining → s.drainComplete = false

theorem State.CarTurn.unfinished (h : s.CarTurn i c told t) (hs : s.Unfinished)
    (hc : c.state.drained = s.cars[i].state.drained) : t.Unfinished := by
  intro hm
  rw [h.eq] at hm
  obtain ⟨j, hj, hundone⟩ := s.drainComplete_false.mp (hs hm)
  refine t.drainComplete_false.mpr ⟨j, by rw [h.eq]; exact hj, ?_⟩
  rw [h.get]
  split
  · next hij => rw [hc, hij, hundone]
  · exact hundone

end CarTurn

/-- The states agree outside the cars and the control link interface. -/
def State.SameButCars (s t : State) : Prop := t = { s with cars := t.cars, ctl := t.ctl }

theorem State.SameButCars.trans {s t u : State} (h₁ : s.SameButCars t) (h₂ : t.SameButCars u) : s.SameButCars u :=
  Eq.trans h₂ (by rw [h₁])

/-- Turns that see of the cars their own record alone: each record ends as its own turn leaves it, and the notices come
in the order of the turns. -/
theorem carTurns {f : State → CarId → State} {record : State → CarId → CarChannel} {told : State → CarId → List Notice}
    {Inv : State → Prop} (hturn : ∀ s i, Inv s → s.CarTurn i (record s i) (told s i) (f s i))
    (hkeeps : ∀ s i, Inv s → Inv (f s i))
    (hlocal : ∀ s t i, s.SameButCars t → t.cars[i] = s.cars[i] → record t i = record s i ∧ told t i = told s i)
    {l : List CarId} (hl : l.Nodup) {s : State} (hs : Inv s) :
    s.SameButCars (l.foldl f s)
      ∧ (∀ j : CarId, (l.foldl f s).cars[j] = if j ∈ l then record s j else s.cars[j])
      ∧ s.ctl.Reports (l.foldl f s).ctl [] (l.flatMap (told s)) := by
  induction l generalizing s with
  | nil => exact ⟨rfl, fun j => by simp, .refl _⟩
  | cons i l ih =>
    obtain ⟨hi, hl⟩ := List.nodup_cons.mp hl
    have turn := hturn s i hs
    have hsame : s.SameButCars (f s i) := by rw [State.SameButCars, turn.eq]
    have hother : ∀ j ∈ l, record (f s i) j = record s j ∧ told (f s i) j = told s j := by
      intro j hj
      have hij : i ≠ j := fun e => hi (e ▸ hj)
      exact hlocal s (f s i) j hsame (by rw [turn.get, if_neg hij])
    obtain ⟨heq, hcars, hreports⟩ := ih hl (hkeeps s i hs)
    rw [List.foldl_cons]
    refine ⟨?_, fun j => ?_, ?_⟩
    · exact hsame.trans heq
    · rw [hcars j]
      by_cases hj : j ∈ l
      · rw [if_pos hj, if_pos (List.mem_cons_of_mem i hj), (hother j hj).1]
      · rw [if_neg hj, turn.get]
        by_cases hij : i = j
        · rw [if_pos hij, if_pos (by simp [hij]), hij]
        · rw [if_neg hij, if_neg (by simp [hj, Ne.symm hij])]
    · have htold : l.flatMap (told (f s i)) = l.flatMap (told s) :=
        List.flatMap_congr fun j hj => (hother j hj).2
      rw [htold] at hreports
      exact turn.reports.trans hreports

/-- The notices of those turns alone that post one. -/
theorem flatMap_ite_singleton {α β : Type} (p : α → Bool) (g : α → β) (l : List α) :
    l.flatMap (fun i => if p i then [g i] else []) = (l.filter p).map g := by
  induction l with
  | nil => rfl
  | cons i l ih => cases h : p i <;> simp [h, ih]

end Sys2Proof.Machine
end

section
/-! SUPPORT. CONFIGURE_TRAIN: its fields judged, the cars that enter and leave the train, and what is forgotten of those
that leave (O40). -/

namespace Sys2Proof.Machine

/-! ## The fields (Table 9-2) -/

theorem within_zero_iff (hi n : Nat) : within 0 hi n = true ↔ n ≤ hi := by simp [within_iff]

theorem offsetGood_zero (p : TrainPayload) : offsetGood p 0 = true ↔ p.offsets[0].toNat = 0 := by
  simp [offsetGood]

/-- The check of a later offset (Table 9-2). -/
theorem offsetGood_follows (p : TrainPayload) {i j : CarId} (h : j.val = i.val + 1) :
    offsetGood p j.val = true ↔ p.Follows i j := by
  have hget : ∀ k : CarId, p.offsets.toList.getD k.val 0 = p.offsets[k] := fun k => by simp
  have hi : j.val - 1 = i.val := by omega
  unfold offsetGood TrainPayload.Follows
  rw [if_neg (by omega)]
  by_cases hj : j.val < p.carCount.toNat
  · simp only [if_pos hj, hi, hget, Bool.and_eq_true, decide_eq_true_eq]
    exact ⟨fun hgood _ => hgood, fun hgood => hgood hj⟩
  · simp only [if_neg hj]
    exact iff_of_true trivial fun h => absurd h hj

/-- Each check of CONFIGURE_TRAIN says whether its field is in range (Table 9-2). -/
theorem trainChecks_good (p : TrainPayload) : ∀ f ∈ trainChecks p, f.2 = true ↔ p.FieldGood f.1 := by
  simp only [trainChecks, List.forall_mem_cons]
  exact ⟨within_iff _ _ _, offsetGood_zero p, offsetGood_follows p (i := 0) (j := 1) rfl,
    offsetGood_follows p (i := 1) (j := 2) rfl, offsetGood_follows p (i := 2) (j := 3) rfl,
    offsetGood_follows p (i := 3) (j := 4) rfl, offsetGood_follows p (i := 4) (j := 5) rfl,
    offsetGood_follows p (i := 5) (j := 6) rfl, offsetGood_follows p (i := 6) (j := 7) rfl, within_iff _ _ _,
    within_iff _ _ _, within_iff _ _ _, within_iff _ _ _, within_zero_iff _ _, within_iff _ _ _, within_zero_iff _ _,
    within_zero_iff _ _, within_zero_iff _ _, within_iff _ _ _, within_iff _ _ _, within_iff _ _ _,
    fun _ h => by cases h⟩

theorem trainChecks_indices (p : TrainPayload) : (trainChecks p).map Prod.fst = List.range 21 := rfl

/-- CONFIGURE_TRAIN has 21 fields (Table 9-2). -/
theorem train_good_of_le (p : TrainPayload) {n : Nat} (h : 21 ≤ n) : p.FieldGood n := by
  obtain ⟨m, rfl⟩ := Nat.exists_eq_add_of_le' h
  exact trivial

/-- The judging of fields numbered from 0, one check for each (R170). -/
theorem firstBad_range {good : Nat → Prop} {l : List (Nat × Bool)} {count : Nat}
    (hindices : l.map Prod.fst = List.range count) (hchecks : ∀ f ∈ l, f.2 = true ↔ good f.1)
    (hrest : ∀ n, count ≤ n → good n) :
    (firstBad l = none ↔ ∀ n, good n)
      ∧ ∀ n, ¬ good n → (∀ m < n, good m) → firstBad l = some n := by
  have hmem : ∀ {n}, n < count → n ∈ l.map Prod.fst := fun hn => hindices ▸ List.mem_range.mpr hn
  refine ⟨?_, fun n hbad hfirst => ?_⟩
  · rw [firstBad_none]
    refine ⟨fun hgood n => ?_, fun hgood f hf => (hchecks f hf).mpr (hgood f.1)⟩
    by_cases hn : n < count
    · obtain ⟨f, hf, rfl⟩ := List.mem_map.mp (hmem hn)
      exact (hchecks f hf).mp (hgood f hf)
    · exact hrest n (Nat.le_of_not_lt hn)
  · have horder : (l.map Prod.fst).Pairwise (· < ·) := hindices ▸ List.pairwise_lt_range
    have hn : n < count := Nat.lt_of_not_le (mt (hrest n) hbad)
    exact firstBad_first (List.pairwise_map.mp horder) hchecks (hmem hn) hbad hfirst

theorem train_judged (p : TrainPayload) :
    (firstBad (trainChecks p) = none ↔ ∀ n, p.FieldGood n)
      ∧ ∀ n, ¬ p.FieldGood n → (∀ m < n, p.FieldGood m) → firstBad (trainChecks p) = some n :=
  firstBad_range (trainChecks_indices p) (trainChecks_good p) (fun _ => train_good_of_le p)

/-! ## The cars' turns (R106, R171) -/

/-- The record that its turn in CONFIGURE_TRAIN leaves of a car (R106). -/
def State.recounted (s : State) (i : CarId) : CarChannel :=
  if i.val < s.unit.settings.carCount then
    (if s.cars[i].state = .offline then (s.cars[i].admitted s.unit.settings.tiltMax).into .centred else s.cars[i])
  else if s.cars[i].state = .offline then s.cars[i] else s.cars[i].dropped.into .offline

/-- The notices of that turn (R109). -/
def State.recountNotices (s : State) (i : CarId) : List Notice :=
  if i.val < s.unit.settings.carCount then
    (if s.cars[i].state = .offline then [s.carNotice i .centred .configure] else [])
  else if s.cars[i].state = .offline then [] else [s.carNotice i .offline .configure]

theorem State.recount_turn (s : State) (i : CarId) (hm : s.unit.mode = .config) :
    s.CarTurn i (s.recounted i) (s.recountNotices i) (s.recount i) := by
  have entered : ∀ c st, s.CarTurn i (c.into st) [s.carNotice i st .configure]
      ((s.setCar i c).transition i st .configure) := fun c st => by
    rw [(s.setCar i c).transition_eq i st _ (.inl (by rw [setCar_unit, hm]; nofun))]
    exact s.setCar_enter_turn i c st .configure
  unfold recount recounted recountNotices
  split
  · split
    · exact entered (s.cars[i].admitted s.unit.settings.tiltMax) .centred
    · exact .still s i
  · split
    · exact .still s i
    · exact entered s.cars[i].dropped .offline

/-- The cars' turns in CONFIG together (R171). -/
theorem State.recount_turns {s : State} (hm : s.unit.mode = .config) :
    let t := allCars.foldl State.recount s
    s.SameButCars t ∧ (∀ i : CarId, t.cars[i] = s.recounted i)
      ∧ s.ctl.Reports t.ctl [] (allCars.flatMap s.recountNotices) := by
  obtain ⟨hsame, hcars, hreports⟩ := carTurns (f := State.recount) (Inv := fun u => u.unit.mode = .config)
    (fun u i hu => u.recount_turn i hu) (fun u i hu => by rw [(u.recount_turn i hu).eq]; exact hu)
    (fun u v i hsame hi => by
      have hunit : v.unit = u.unit := by rw [hsame]
      have hodo : v.odo = u.odo := by rw [hsame]
      simp only [recounted, recountNotices, carNotice, notice, hunit, hodo, hi, and_self])
    (l := allCars) (by decide) hm
  exact ⟨hsame, fun i => (hcars i).trans (if_pos (mem_allCars i)), hreports⟩

/-! ## What is forgotten of a car (R106) -/

theorem State.forgetCar_get (s : State) (j i : CarId) :
    (s.forgetCar j).link.drives[i]
        = (if j = i then ⟨s.link.drives[i].sequence, 0, false, 0, none⟩ else s.link.drives[i])
      ∧ (s.forgetCar j).sup.persistence[i] = (if j = i then 0 else s.sup.persistence[i])
      ∧ (s.forgetCar j).sup.suspended[i] = (if j = i then false else s.sup.suspended[i]) := by
  unfold forgetCar
  by_cases h : j = i
  · subst h; simp
  · simp [h, Fin.ext_iff.not.mp h]

/-- The master's and the Supervisor's items of the cars of a list are forgotten, and nothing else. -/
theorem State.forget_list (l : List CarId) (s : State) :
    let t := l.foldl State.forgetCar s
    t = { s with
        link := { s.link with drives := t.link.drives }
        sup := { t.sup with mismatches := s.sup.mismatches.filter (fun m => decide (m.car ∉ l)) } }
      ∧ ∀ i : CarId,
        t.link.drives[i] = (if i ∈ l then ⟨s.link.drives[i].sequence, 0, false, 0, none⟩ else s.link.drives[i])
        ∧ t.sup.persistence[i] = (if i ∈ l then 0 else s.sup.persistence[i])
        ∧ t.sup.suspended[i] = (if i ∈ l then false else s.sup.suspended[i]) := by
  induction l generalizing s with
  | nil => exact ⟨by simp, by simp⟩
  | cons j l ih =>
    obtain ⟨e, hcars⟩ := ih (s.forgetCar j)
    rw [List.foldl_cons]
    intro t
    refine ⟨?_, fun i => ?_⟩
    · have hfilter : (s.forgetCar j).sup.mismatches.filter (fun m => decide (m.car ∉ l))
          = s.sup.mismatches.filter (fun m => decide (m.car ∉ j :: l)) := by
        rw [forgetCar, List.filter_filter]
        refine List.filter_congr fun m _ => ?_
        simp [Bool.and_comm]
      rw [hfilter] at e
      exact e
    · obtain ⟨hdrive, hcount, hmark⟩ := hcars i
      obtain ⟨hdrive', hcount', hmark'⟩ := s.forgetCar_get j i
      rw [hdrive, hcount, hmark, hdrive', hcount', hmark']
      by_cases hj : j = i
      · subst hj; simp
      · have hmem : i ∈ j :: l ↔ i ∈ l := by simp [Ne.symm hj]
        simp only [if_neg hj, hmem, and_self]

/-! ## CONFIGURE_TRAIN (R170, R171) -/

theorem State.linkLeaving_drives (s : State) (joins : CarId → Bool) (l : ActuatorLink) :
    (s.linkLeaving joins l).drives = l.drives := by
  unfold linkLeaving
  split
  · rfl
  · dsimp only
    split <;> rfl

/-- The cars that a train of `count` cars makes part of it, and those that it drops (R106). -/
def State.entering (s : State) (count : Nat) (i : CarId) : Bool :=
  decide (i.val < count) && s.cars[i].state == .offline

def State.leavingTrain (s : State) (count : Nat) (i : CarId) : Bool :=
  decide (count ≤ i.val) && s.cars[i].state != .offline

section Configure

variable {s : State} {p : TrainPayload}

/-- The records, told by which cars enter and leave (R106). -/
theorem State.recounted_eq (s : State) (i : CarId) :
    let count := s.unit.settings.carCount
    s.recounted i = if s.entering count i then (s.cars[i].admitted s.unit.settings.tiltMax).into .centred
      else if s.leavingTrain count i then s.cars[i].dropped.into .offline else s.cars[i] := by
  unfold recounted entering leavingTrain
  by_cases hcount : i.val < s.unit.settings.carCount
  · by_cases hstate : s.cars[i].state = .offline <;> simp [hcount, hstate, -Fin.getElem_fin]
  · by_cases hstate : s.cars[i].state = .offline <;> simp [hcount, hstate, -Fin.getElem_fin]

theorem State.recountNotices_eq (s : State) (i : CarId) :
    let count := s.unit.settings.carCount
    s.recountNotices i = if s.entering count i || s.leavingTrain count i then
      [s.carNotice i (if s.entering count i then .centred else .offline) .configure] else [] := by
  unfold recountNotices entering leavingTrain
  by_cases hcount : i.val < s.unit.settings.carCount
  · by_cases hstate : s.cars[i].state = .offline <;> simp [hcount, hstate, -Fin.getElem_fin]
  · by_cases hstate : s.cars[i].state = .offline <;> simp [hcount, hstate, -Fin.getElem_fin]

/-- The state of CONFIGURE_TRAIN before the cycle in progress is told (R171). -/
def State.retrained (s : State) (p : TrainPayload) : State :=
  (allCars.filter (s.leavingTrain p.carCount.toNat)).foldl State.forgetCar
    (allCars.foldl State.recount { s with unit := { s.unit with settings := trainSettings p } })

theorem requestConfigureTrain_wrongMode (h : s.unit.mode ≠ .config) :
    requestConfigureTrain p s = .refuse s .wrongMode := if_pos h

theorem requestConfigureTrain_refused {n : Nat} (hm : s.unit.mode = .config)
    (h : firstBad (trainChecks p) = some n) :
    requestConfigureTrain p s = .refuse s .outOfRange [BitVec.ofNat 8 n] := by
  rw [requestConfigureTrain, if_neg (not_not.mpr hm), h]

theorem requestConfigureTrain_done (hm : s.unit.mode = .config) (h : firstBad (trainChecks p) = none) :
    requestConfigureTrain p s = .done ((s.retrained p).leaveToNextCycle (s.entering p.carCount.toNat)) := by
  rw [requestConfigureTrain, if_neg (not_not.mpr hm), h]
  rfl

/-- The train made anew: its settings, each car's records, and the notices (R106, R171). -/
theorem State.retrained_spec (hm : s.unit.mode = .config) (p : TrainPayload) :
    let count := p.carCount.toNat
    let t := s.retrained p
    t = { s with
        cars := t.cars, link := { s.link with drives := t.link.drives }
        sup := { t.sup with mismatches := s.sup.mismatches.filter (fun m => !s.leavingTrain count m.car) }
        unit := { s.unit with settings := trainSettings p }, ctl := t.ctl }
      ∧ (∀ i : CarId,
        t.cars[i] = (if s.entering count i then (s.cars[i].admitted p.tiltMax.toNat).into .centred
          else if s.leavingTrain count i then s.cars[i].dropped.into .offline else s.cars[i])
        ∧ t.link.drives[i] = (if s.leavingTrain count i then ⟨s.link.drives[i].sequence, 0, false, 0, none⟩
          else s.link.drives[i])
        ∧ t.sup.persistence[i] = (if s.leavingTrain count i then 0 else s.sup.persistence[i])
        ∧ t.sup.suspended[i] = (if s.leavingTrain count i then false else s.sup.suspended[i]))
      ∧ s.ctl.Reports t.ctl [] ((allCars.filter (fun i => s.entering count i || s.leavingTrain count i)).map
          (fun i => s.carNotice i (if s.entering count i then .centred else .offline) .configure)) := by
  intro count t
  let u : State := { s with unit := { s.unit with settings := trainSettings p } }
  obtain ⟨hsame, hcars, hreports⟩ := State.recount_turns (s := u) hm
  obtain ⟨e, hforgot⟩ := State.forget_list (allCars.filter (s.leavingTrain count)) (allCars.foldl State.recount u)
  have ht : (allCars.filter (s.leavingTrain count)).foldl State.forgetCar (allCars.foldl State.recount u) = t := rfl
  rw [ht] at e hforgot
  generalize allCars.foldl State.recount u = v at hsame hcars hreports e hforgot
  clear_value t
  have hlink : v.link = s.link := by rw [hsame]
  have hsup : v.sup = s.sup := by rw [hsame]
  have htcars : t.cars = v.cars := by rw [e]
  have htctl : t.ctl = v.ctl := by rw [e]
  have hmem : ∀ i, i ∈ allCars.filter (s.leavingTrain count) ↔ s.leavingTrain count i = true := fun i => by
    simp [mem_allCars]
  have hfilter : (fun m : Mismatch => decide (m.car ∉ allCars.filter (s.leavingTrain count)))
      = fun m => !s.leavingTrain count m.car := by
    funext m; simp [mem_allCars]
  refine ⟨?_, fun i => ?_, ?_⟩
  · rw [hfilter, hsame] at e
    rw [htcars, htctl]
    exact e
  · obtain ⟨hdrive, hcount, hmark⟩ := hforgot i
    simp only [hmem, hlink, hsup] at hdrive hcount hmark
    exact ⟨by rw [htcars, hcars i]; exact u.recounted_eq i, hdrive, hcount, hmark⟩
  · have hnotices : allCars.flatMap u.recountNotices
        = (allCars.filter (fun i => s.entering count i || s.leavingTrain count i)).map
          (fun i => s.carNotice i (if s.entering count i then .centred else .offline) .configure) := by
      rw [← flatMap_ite_singleton]
      exact List.flatMap_congr fun i _ => u.recountNotices_eq i
    rw [htctl, ← hnotices]
    exact hreports

end Configure

theorem trainSettings_offset (p : TrainPayload) (i : CarId) :
    (trainSettings p).offsets[i] = if i.val < p.carCount.toNat then p.offsets[i].toNat else 0 := by
  simp [trainSettings]

/-- Settles O40: the judging is `train_judged`, the effect `retrained_spec`, and the cycle in progress is told of the
cars that enter (`leaveToNextCycle_eq`). -/
theorem trainConfigured : Obligations.TrainConfigured := by
  intro tag p s hready
  have hexec := exec_ready (c := .configureTrain tag p) rfl hready
  obtain ⟨hgood, hbad⟩ := train_judged p
  refine ⟨fun hm => ?_, fun n hm hn hfirst => ?_, fun hm hall => ?_⟩
  · rw [hexec, requestConfigureTrain_wrongMode hm]; rfl
  · rw [hexec, requestConfigureTrain_refused hm (hbad n hn hfirst)]; rfl
  intro count enters leaves reaction
  have hdone : exec (.configureTrain tag p) s
      = .next (((s.retrained p).leaveToNextCycle enters).replied ⟨0x82, tag, .ok, []⟩) := by
    rw [hexec, requestConfigureTrain_done hm (hgood.mpr hall)]; rfl
  obtain ⟨e, hcars, hreports⟩ := State.retrained_spec hm p
  have heq := State.leaving_replied e enters ⟨0x82, tag, .ok, []⟩
  have hrep := State.leaving_reports hreports enters ⟨0x82, tag, .ok, []⟩
  refine ⟨_, hdone, ?_⟩
  generalize ((s.retrained p).leaveToNextCycle enters).replied ⟨0x82, tag, .ok, []⟩ = t at heq hrep ⊢
  generalize s.retrained p = w at e hcars hreports heq
  have htcars : t.cars = w.cars := by rw [heq]
  have hdrives : t.link.drives = w.link.drives := by rw [heq]; exact State.linkLeaving_drives _ _ _
  have hsup : t.sup = { w.sup with mismatches := s.sup.mismatches.filter (fun m => !leaves m.car) } := by rw [heq]; rfl
  have hunit : t.unit = { s.unit with settings := trainSettings p } := by rw [heq]
  refine ⟨?_, fun i => ?_, hrep⟩
  · rw [htcars, hdrives, hsup, hunit]
    exact heq
  · rw [htcars, hdrives, hsup, hunit]
    exact ⟨trainSettings_offset p i, hcars i⟩

end Sys2Proof.Machine
end

section
/-! SUPPORT. What the soundness of health asks of one car's record, drive and suspension mark, and the changes that keep
it (R90, R120 to R127, R136). -/

namespace Sys2Proof.Machine

/-- The soundness of health for one car's record, its drive and its suspension mark. -/
structure HealthFits (c : CarChannel) (d : Drive) (suspended : Bool) : Prop where
  range : d.health ≤ 160
  isolated : c.state = .isolated ↔ d.health = 160
  offline : c.state = .offline → d.health = 0 ∧ c.supervision = false
  reduce : c.healthReduce = true ↔ 80 ≤ d.health
  warned : 40 ≤ d.health → d.warned = true
  warned_pos : d.warned = true → 0 < d.health
  probing : d.probing ≤ 15
  probing_only : c.state ≠ .probing → d.probing = 0
  suspended : c.supervision = suspended
  faultKnown : c.driveFault = true → d.lastGood ≠ none

theorem State.healthSoundAt_iff (s : State) (i : CarId) :
    s.HealthSoundAt i ↔ HealthFits s.cars[i] s.link.drives[i] s.sup.suspended[i] :=
  ⟨fun ⟨a, b, c, d, e, f, g, h, j, k⟩ => ⟨a, b, c, d, e, f, g, h, j, k⟩,
    fun ⟨a, b, c, d, e, f, g, h, j, k⟩ => ⟨a, b, c, d, e, f, g, h, j, k⟩⟩

/-- A polled car that is not PROBING is in service, so the frame computes it. -/
theorem CarState.computed_of_polled {st : CarState} (h : st.polled = true) (hp : st ≠ .probing) :
    st.computed = true := by
  cases st <;> simp_all [polled, computed]

/-! ## Changes that leave the drive -/

/-- What of a record the soundness of health speaks of. -/
def CarChannel.standing (c : CarChannel) : CarState × Bool × Bool × Bool :=
  (c.state, c.driveFault, c.supervision, c.healthReduce)

/-- From `c` to `c'` a car keeps its state or moves within service, its suspension and its SUPERVISION member go together,
and its DRIVE_FAULT is not made present without a good reply. -/
structure CarChannel.Serves (c c' : CarChannel) (d : Drive) (b b' : Bool) : Prop where
  state : c'.state = c.state ∨ (c.state.computed = true ∧ c'.state.computed = true)
  healthReduce : c'.healthReduce = c.healthReduce
  driveFault : c'.driveFault = true → c.driveFault = true ∨ d.lastGood ≠ none
  suspended : (c'.supervision = c.supervision ∧ b' = b) ∨ (c.state.computed = true ∧ c'.supervision = b')

section Serves

variable {c c' c'' : CarChannel} {d : Drive} {b b' b'' : Bool}

theorem CarChannel.Serves.of_standing (h : c'.standing = c.standing) : c.Serves c' d b b := by
  simp only [standing, Prod.mk.injEq] at h
  obtain ⟨hstate, hfault, hsup, hreduce⟩ := h
  exact ⟨.inl hstate, hreduce, fun hd => .inl (hfault ▸ hd), .inl ⟨hsup, rfl⟩⟩

/-- A move within service. -/
theorem CarChannel.Serves.moved (h : c.state.computed = true) (h' : c'.state.computed = true)
    (hreduce : c'.healthReduce = c.healthReduce) (hfault : c'.driveFault = c.driveFault)
    (hsup : c'.supervision = c.supervision) : c.Serves c' d b b :=
  ⟨.inr ⟨h, h'⟩, hreduce, fun hd => .inl (hfault ▸ hd), .inl ⟨hsup, rfl⟩⟩

theorem CarChannel.Serves.computed (h : c.Serves c' d b b') : c'.state.computed = c.state.computed := by
  rcases h.state with e | ⟨h₁, h₂⟩
  · rw [e]
  · rw [h₁, h₂]

theorem CarChannel.Serves.trans (h : c.Serves c' d b b') (h' : c'.Serves c'' d b' b'') : c.Serves c'' d b b'' where
  state := by
    rcases h'.state with e | ⟨h₁, h₂⟩
    · rw [e]; exact h.state
    · exact .inr ⟨h.computed ▸ h₁, h₂⟩
  healthReduce := h'.healthReduce.trans h.healthReduce
  driveFault hd := (h'.driveFault hd).elim h.driveFault .inr
  suspended := by
    rcases h'.suspended with ⟨hsup, rfl⟩ | ⟨h₁, h₂⟩
    · rw [hsup]; exact h.suspended
    · exact .inr ⟨h.computed ▸ h₁, h₂⟩

theorem HealthFits.serves (h : HealthFits c d b) (hs : c.Serves c' d b b') : HealthFits c' d b' := by
  have hnot : ∀ st : CarState, st.computed = false → (c'.state = st ↔ c.state = st) := by
    intro st hst
    rcases hs.state with e | ⟨h₁, h₂⟩
    · rw [e]
    · exact iff_of_false (by rintro rfl; rw [h₂] at hst; cases hst) (by rintro rfl; rw [h₁] at hst; cases hst)
  exact
    { range := h.range
      isolated := (hnot .isolated rfl).trans h.isolated
      offline := fun ho => by
        have ho' := (hnot .offline rfl).mp ho
        refine ⟨(h.offline ho').1, ?_⟩
        rcases hs.suspended with ⟨hsup, -⟩ | ⟨hc, -⟩
        · rw [hsup]; exact (h.offline ho').2
        · rw [ho'] at hc; cases hc
      reduce := by rw [hs.healthReduce]; exact h.reduce
      warned := h.warned
      warned_pos := h.warned_pos
      probing := h.probing
      probing_only := fun hp => h.probing_only ((hnot .probing rfl).not.mp hp)
      suspended := by
        rcases hs.suspended with ⟨hsup, rfl⟩ | ⟨-, hb⟩
        · rw [hsup]; exact h.suspended
        · exact hb
      faultKnown := fun hd => (hs.driveFault hd).elim h.faultKnown id }

theorem CarChannel.caused_serves (c : CarChannel) (cause : LatchReason) (reaction : Reaction) :
    c.Serves (c.caused cause reaction) d b b := by
  obtain ⟨tracking, centred, held, unmoved, out⟩ := c.caused_cases cause reaction
  cases hs : c.state with
  | tracking => rw [tracking hs]; exact .moved (by rw [hs]; rfl) rfl rfl rfl rfl
  | centred =>
    by_cases hl : reaction = .centreAndLatch
    · rw [centred hs hl]; exact .moved (by rw [hs]; rfl) rfl rfl rfl rfl
    · rw [unmoved (.inl hs) hl]; exact .of_standing rfl
  | returning =>
    by_cases hl : reaction = .centreAndLatch
    · rw [held (.inl hs) hl]; exact .of_standing rfl
    · rw [unmoved (.inr (.inl hs)) hl]; exact .of_standing rfl
  | latched =>
    by_cases hl : reaction = .centreAndLatch
    · rw [held (.inr hs) hl]; exact .of_standing rfl
    · rw [unmoved (.inr (.inr hs)) hl]; exact .of_standing rfl
  | offline => rw [out (.inl hs)]; exact .of_standing rfl
  | isolated => rw [out (.inr (.inl hs))]; exact .of_standing rfl
  | probing => rw [out (.inr (.inr hs))]; exact .of_standing rfl

/-- The state test of a frame; a car that resumes is no more suspended (R88, R94, R136). -/
theorem State.testedRecord_serves (s : State) (c : CarChannel) :
    c.Serves (s.testedRecord c) d b
      (if c.state ≠ .tracking ∧ (s.testedRecord c).state = .tracking then false else b) := by
  unfold testedRecord
  split
  · next h =>
    have hinto : ∀ st, st = .latched ∨ st = .centred → c.Serves (c.into st) d b
        (if c.state ≠ .tracking ∧ (c.into st).state = .tracking then false else b) := by
      rintro st (rfl | rfl) <;> rw [if_neg fun hn => by cases hn.2] <;>
        exact .moved (by rw [h.1]; rfl) rfl rfl rfl rfl
    split
    · exact hinto .latched (.inl rfl)
    · exact hinto .centred (.inr rfl)
  · split
    · next h =>
      rw [if_pos ⟨by rw [h.1]; nofun, rfl⟩]
      exact ⟨.inr ⟨by rw [h.1]; rfl, rfl⟩, rfl, .inl, .inr ⟨by rw [h.1]; rfl, rfl⟩⟩
    · split
      · next h =>
        rw [if_neg fun hn => hn.1 h.1]
        exact .moved (by rw [h.1]; rfl) rfl rfl rfl rfl
      · rw [if_neg fun hn => hn.1 hn.2]
        exact .of_standing rfl

theorem State.lawRecord_standing (s : State) (i : CarId) : (s.lawRecord i).standing = s.cars[i].standing := by
  unfold lawRecord
  split <;> rfl

/-- A car's turn in a frame (R88). -/
theorem State.frameRecord_serves (s : State) (v : Nat) (i : CarId) :
    s.cars[i].Serves (s.frameRecord v i) d b
      (if s.cars[i].state ≠ .tracking ∧ (s.frameRecord v i).state = .tracking then false else b) := by
  have hstate := s.lawRecord_state i
  rw [frameRecord_eq]
  split
  · rw [← hstate]
    exact CarChannel.Serves.trans (c' := ((s.lawRecord i).take ((s.setCar i (s.lawRecord i)).demand v i)).step
      s.unit.settings.tiltMax) (.of_standing (s.lawRecord_standing i)) (s.testedRecord_serves _)
  · rw [if_neg fun hn => hn.1 (hstate ▸ hn.2)]
    exact .of_standing (s.lawRecord_standing i)

end Serves

/-! ## Changes with the drive -/

section Drive

variable {c : CarChannel} {d : Drive} {b : Bool}

/-- A good reply of a polled car: the counter falls, and the reply is kept (R120 to R122, R125). -/
theorem HealthFits.healed (h : HealthFits c d b) (hp : c.state.polled = true) (r : DriveReport) :
    HealthFits { c with healthReduce := decide (80 ≤ d.health - 1) }
      { d with health := d.health - 1, warned := d.warned && d.health - 1 != 0, lastGood := some r } b := by
  have hrange := h.range
  have hoffline : c.state ≠ .offline := fun e => by rw [e] at hp; cases hp
  have hisolated : c.state ≠ .isolated := fun e => by rw [e] at hp; cases hp
  have hlow : d.health ≠ 160 := fun e => hisolated (h.isolated.mpr e)
  exact
    { range := by dsimp only; omega
      isolated := iff_of_false hisolated (by dsimp only; omega)
      offline := fun e => absurd e hoffline
      reduce := decide_eq_true_iff
      warned := fun hw => by
        dsimp only at hw ⊢
        rw [h.warned (by omega), Bool.true_and, bne_iff_ne]
        omega
      warned_pos := fun hw => by
        simp only [Bool.and_eq_true, bne_iff_ne] at hw
        exact Nat.pos_of_ne_zero hw.2
      probing := h.probing
      probing_only := h.probing_only
      suspended := h.suspended
      faultKnown := fun _ => nofun }

/-- Six points of a car that stays in service (R120 to R122). -/
theorem HealthFits.failed (h : HealthFits c d b) (hp : c.state.polled = true) (hn : d.health + 6 < 160) :
    HealthFits { c with healthReduce := decide (80 ≤ d.health + 6) }
      { d with health := d.health + 6, warned := d.warned || decide (40 ≤ d.health + 6) } b where
  range := by dsimp only; omega
  isolated := iff_of_false (fun e => by dsimp only at e; rw [e] at hp; cases hp) (by dsimp only; omega)
  offline e := by dsimp only at e; rw [e] at hp; cases hp
  reduce := decide_eq_true_iff
  warned hw := by rw [decide_eq_true (p := 40 ≤ d.health + 6) hw, Bool.or_true]
  warned_pos _ := by dsimp only; omega
  probing := h.probing
  probing_only := h.probing_only
  suspended := h.suspended
  faultKnown := h.faultKnown

/-- A car that is ISOLATED with its counter at 160, warned of before (R102, R123, R127). -/
theorem HealthFits.isolates (h : HealthFits c d b) {c' : CarChannel} {w : Bool} (hw : w = true)
    (hstate : c'.state = .isolated) (hreduce : c'.healthReduce = true) (hsup : c'.supervision = c.supervision)
    (hfault : c'.driveFault = c.driveFault) :
    HealthFits c' { d with health := 160, warned := w, probing := 0 } b where
  range := Nat.le_refl _
  isolated := iff_of_true hstate rfl
  offline e := by rw [hstate] at e; cases e
  reduce := iff_of_true hreduce (by dsimp only; omega)
  warned _ := hw
  warned_pos _ := by dsimp only; omega
  probing := Nat.zero_le _
  probing_only _ := rfl
  suspended := hsup.trans h.suspended
  faultKnown hd := h.faultKnown (hfault ▸ hd)

/-- A probe that goes on (R127). -/
theorem HealthFits.probes (h : HealthFits c d b) (hc : c.state = .probing) {n : Nat} (hn : n ≤ 15) :
    HealthFits c { d with probing := n } b :=
  { h with probing := hn, probing_only := fun hp => absurd hc hp }

/-- A probe that passes (R127). -/
theorem HealthFits.passes (h : HealthFits c d b) (hc : c.state = .probing) :
    HealthFits (c.into .centred) { d with probing := 0 } b where
  range := h.range
  isolated := iff_of_false nofun fun e => by have := h.isolated.mpr e; rw [hc] at this; cases this
  offline := nofun
  reduce := h.reduce
  warned := h.warned
  warned_pos := h.warned_pos
  probing := Nat.zero_le _
  probing_only _ := rfl
  suspended := h.suspended
  faultKnown := h.faultKnown

/-- A car put into PROBING (R126). -/
theorem HealthFits.readmitted (h : HealthFits c d b) :
    HealthFits { c.into .probing with healthReduce := false } { d with health := 0, warned := false, probing := 0 } b where
  range := Nat.zero_le _
  isolated := iff_of_false nofun nofun
  offline := nofun
  reduce := iff_of_false nofun (by dsimp only; omega)
  warned := by dsimp only; omega
  warned_pos := nofun
  probing := Nat.zero_le _
  probing_only _ := rfl
  suspended := h.suspended
  faultKnown := h.faultKnown

/-- An OFFLINE car made part of the train (R106). -/
theorem HealthFits.admitted (h : HealthFits c d b) (hc : c.state = .offline) (tiltMax : Nat) :
    HealthFits ((c.admitted tiltMax).into .centred) d b := by
  obtain ⟨hhealth, hsup⟩ := h.offline hc
  exact
    { range := h.range
      isolated := iff_of_false nofun (by omega)
      offline := nofun
      reduce := iff_of_false nofun (by omega)
      warned := h.warned
      warned_pos := h.warned_pos
      probing := h.probing
      probing_only := fun _ => h.probing_only (by rw [hc]; nofun)
      suspended := hsup.symm.trans h.suspended
      faultKnown := nofun }

/-- A car dropped from the train, with what was held for it forgotten (R106). -/
theorem HealthFits.dropped (c : CarChannel) (sequence : Byte) :
    HealthFits (c.dropped.into .offline) ⟨sequence, 0, false, 0, none⟩ false where
  range := Nat.zero_le _
  isolated := iff_of_false nofun nofun
  offline _ := ⟨rfl, rfl⟩
  reduce := iff_of_false nofun (by dsimp only; omega)
  warned := by dsimp only; omega
  warned_pos := nofun
  probing := Nat.zero_le _
  probing_only _ := rfl
  suspended := rfl
  faultKnown := nofun

theorem restartState_isolated (st : CarState) : restartState st = .isolated ↔ st = .isolated ∨ st = .probing := by
  cases st <;> simp [restartState]

theorem restartState_offline (st : CarState) : restartState st = .offline ↔ st = .offline := by
  cases st <;> simp [restartState]

/-- A car of the train that is not PROBING, through a RESTART (R112, R130). -/
theorem HealthFits.restart_kept (h : HealthFits c d b) (ho : c.state ≠ .offline) (hp : c.state ≠ .probing)
    (tiltMax : Nat) : HealthFits (c.restart d.health tiltMax) { d with probing := 0 } false where
  range := h.range
  isolated := (restartState_isolated c.state).trans ((or_iff_left hp).trans h.isolated)
  offline e := absurd ((restartState_offline c.state).mp e) ho
  reduce := decide_eq_true_iff
  warned := h.warned
  warned_pos := h.warned_pos
  probing := Nat.zero_le _
  probing_only _ := rfl
  suspended := rfl
  faultKnown := nofun

/-- A car through a RESTART (R112, R130). -/
theorem HealthFits.restarted (h : HealthFits c d b) (tiltMax : Nat) :
    HealthFits (c.restarted d tiltMax) (d.restart (c.state == .probing)) false := by
  unfold CarChannel.restarted
  by_cases ho : c.state = .offline
  · have hdrive : d.restart (c.state == .probing) = { d with probing := 0 } := by rw [ho]; rfl
    rw [if_pos ho, hdrive]
    exact { h with probing := Nat.zero_le _, probing_only := fun _ => rfl, suspended := (h.offline ho).2 }
  · rw [if_neg ho]
    by_cases hp : c.state = .probing
    · have hdrive : d.restart (c.state == .probing) = { d with health := 160, warned := true, probing := 0 } := by
        rw [hp]; rfl
      have hstate : (c.restart 160 tiltMax).state = .isolated := congrArg restartState hp
      rw [hdrive]
      exact
        { range := Nat.le_refl _
          isolated := iff_of_true hstate rfl
          offline := fun e => by cases hstate.symm.trans e
          reduce := iff_of_true rfl (by dsimp only; omega)
          warned := fun _ => rfl
          warned_pos := fun _ => Nat.zero_lt_succ _
          probing := Nat.zero_le _
          probing_only := fun _ => rfl
          suspended := rfl
          faultKnown := nofun }
    · have hdrive : d.restart (c.state == .probing) = { d with probing := 0 } := by
        rw [beq_eq_false_iff_ne.mpr hp]; rfl
      rw [hdrive]
      exact h.restart_kept ho hp tiltMax

end Drive

end Sys2Proof.Machine
end

section
/-! SUPPORT. The soundness of health, kept by the events, the requests and so by every step (O56). -/

namespace Sys2Proof.Machine

/-! ## Events that leave the drives -/

/-- From `s` to `t` the drives stay, and each car serves on. -/
structure State.ServesOn (s t : State) : Prop where
  drives : t.link.drives = s.link.drives
  cars : ∀ i : CarId, s.cars[i].Serves t.cars[i] s.link.drives[i] s.sup.suspended[i] t.sup.suspended[i]

section ServesOn

variable {s t u : State}

theorem State.ServesOn.of_eq (cars : t.cars = s.cars) (drives : t.link.drives = s.link.drives)
    (suspended : t.sup.suspended = s.sup.suspended) : s.ServesOn t :=
  ⟨drives, fun i => by rw [cars, suspended]; exact .of_standing rfl⟩

theorem State.ServesOn.refl (s : State) : s.ServesOn s := .of_eq rfl rfl rfl

theorem State.ServesOn.trans (h₁ : s.ServesOn t) (h₂ : t.ServesOn u) : s.ServesOn u :=
  ⟨h₂.drives.trans h₁.drives, fun i => (h₁.cars i).trans (h₁.drives ▸ h₂.cars i)⟩

/-- What serves on after a change outside the cars, the drives and the marks. -/
theorem State.ServesOn.congr (h : t.ServesOn u) (cars : t.cars = s.cars) (drives : t.link.drives = s.link.drives)
    (suspended : t.sup.suspended = s.sup.suspended) : s.ServesOn u :=
  .trans (.of_eq cars drives suspended) h

theorem State.ServesOn.of_foldl {α : Type} (f : State → α → State) (h : ∀ (s : State) i, s.ServesOn (f s i))
    (l : List α) (s : State) : s.ServesOn (l.foldl f s) :=
  foldl_keeps s.ServesOn f (fun _ i hs => hs.trans (h _ i)) l s (.refl s)

/-- One car's record, and its mark with it, changes. -/
theorem State.ServesOn.of_record {i : CarId} {c : CarChannel} {b : Bool} (cars : t.cars = s.cars.set i c)
    (drives : t.link.drives = s.link.drives) (suspended : t.sup.suspended = s.sup.suspended.set i b)
    (h : s.cars[i].Serves c s.link.drives[i] s.sup.suspended[i] b) : s.ServesOn t where
  drives := drives
  cars j := by
    have hcar : t.cars[j] = if i = j then c else s.cars[j] := by rw [cars]; exact s.setCar_get i j c
    have hmark : t.sup.suspended[j] = if i = j then b else s.sup.suspended[j] := by
      rw [suspended]; exact s.setSuspended_get i j b
    rw [hcar, hmark]
    split
    · next hij => subst hij; exact h
    · exact .of_standing rfl

/-- One car's record changes. -/
theorem State.ServesOn.of_car {i : CarId} {c : CarChannel} (cars : t.cars = s.cars.set i c)
    (drives : t.link.drives = s.link.drives) (suspended : t.sup.suspended = s.sup.suspended)
    (h : s.cars[i].Serves c s.link.drives[i] s.sup.suspended[i] s.sup.suspended[i]) : s.ServesOn t :=
  .of_record cars drives (by rw [suspended]; simp) h

/-- Sound health stays sound while each car serves on. -/
theorem State.HealthSound.serves (h : s.HealthSound) (hs : s.ServesOn t) : t.HealthSound := fun i =>
  (t.healthSoundAt_iff i).mpr (hs.drives ▸ ((s.healthSoundAt_iff i).mp (h i)).serves (hs.cars i))

/-- Sound health stays sound as one car's record and drive change to others that fit. -/
theorem State.HealthSound.of_one (h : s.HealthSound) {i : CarId} {c : CarChannel} {d : Drive}
    (cars : t.cars = s.cars.set i c) (drives : t.link.drives = s.link.drives.set i d)
    (suspended : t.sup.suspended = s.sup.suspended) (hi : HealthFits c d s.sup.suspended[i]) : t.HealthSound := by
  intro j
  have hcar : t.cars[j] = if i = j then c else s.cars[j] := by rw [cars]; exact s.setCar_get i j c
  have hdrive : t.link.drives[j] = if i = j then d else s.link.drives[j] := by rw [drives]; exact s.setDrive_get i j d
  rw [healthSoundAt_iff, hcar, hdrive, suspended]
  split
  · next hij => subst hij; exact hi
  · exact (s.healthSoundAt_iff j).mp (h j)

end ServesOn

/-! ## Changes of a car's state -/

theorem State.post_serves (s : State) (k : NoticeKind) (c : Option CarId) (a b : BitVec 16) :
    s.ServesOn (s.post k c a b) := .of_eq (by simp) (by simp) (by simp)

theorem State.transition_cars (s : State) (i : CarId) (st : CarState) (cause : CarCause) :
    (s.transition i st cause).cars = s.cars.set i (s.cars[i].into st) := by
  rw [(s.transition_spec i st cause).1]

/-- A car in service enters a state of service. -/
theorem State.transition_serves {s : State} {i : CarId} (h : s.cars[i].state.computed = true) {st : CarState}
    (hst : st.computed = true) (cause : CarCause) : s.ServesOn (s.transition i st cause) :=
  .of_car (s.transition_cars i st cause) (by simp) (by simp) (.moved h hst rfl rfl rfl)

theorem State.centreCar_serves (s : State) (cause : CarCause) (i : CarId) : s.ServesOn (s.centreCar cause i) := by
  unfold centreCar
  split
  · next h => exact transition_serves (by rw [h]; rfl) rfl cause
  · exact .refl s

theorem State.centreAll_serves (s : State) (cause : CarCause) : s.ServesOn (s.centreAll cause) :=
  .of_foldl _ (fun s i => s.centreCar_serves cause i) _ _

theorem State.carCause_serves (s : State) (i : CarId) (cause : LatchReason) (reaction : Reaction) :
    s.ServesOn (s.carCause i cause reaction) := by
  refine ⟨by simp, fun j => ?_⟩
  rw [carCause_get, carCause_sup]
  split
  · next hij => subst hij; exact CarChannel.caused_serves _ _ _
  · exact .of_standing rfl

theorem State.copyLaw_serves (s : State) (i : CarId) : s.ServesOn (s.copyLaw i) :=
  .of_car rfl rfl rfl (.of_standing rfl)

theorem State.stageCar_serves (s : State) (i : CarId) : s.ServesOn (s.stageCar i) := by
  unfold stageCar
  dsimp only
  split
  · split
    · exact s.copyLaw_serves i
    · exact (s.copyLaw_serves i).trans (State.post_serves _ _ _ _ _)
  · exact .refl s

theorem State.drainCar_serves (s : State) (i : CarId) : s.ServesOn (s.drainCar i) := by
  unfold drainCar
  split
  · exact s.centreCar_serves .drain i
  · exact .refl s

/-- The cars' turns in the control frame (R88). -/
theorem frameCars_serves (v : Nat) (l : List CarId) (s : State) (lead : Option Nat) (car0 : Bool) :
    s.ServesOn (frameCars v l s lead car0).1 := by
  have turn : ∀ (u : State) i, u.ServesOn (u.frameCar v i) := by
    intro u i
    obtain ⟨e, -⟩ := u.frameCar_spec v i
    refine .of_record (by rw [e]) (by rw [e]) ?_ (u.frameRecord_serves v i)
    rw [e]
    dsimp only
    split
    · rfl
    · simp
  induction l generalizing s lead car0 with
  | nil => exact .refl s
  | cons i l ih => exact .trans (turn s i) (ih _ _ _)

/-- The releases of LATCHED cars (R104, R105). -/
theorem State.release_serves {s : State} {i : CarId} (h : s.cars[i].state = .latched) : s.ServesOn (s.release i) := by
  have unlatched : s.ServesOn (s.setLatch i none) := .of_car rfl rfl rfl (.of_standing rfl)
  refine unlatched.trans (transition_serves ?_ rfl .resumeRequest)
  rw [setLatch_get, if_pos rfl, h]
  rfl

theorem releaseCars_serves (l : List CarId) (s : State) (n : Nat) : s.ServesOn (releaseCars l s n).1 := by
  induction l generalizing s n with
  | nil => exact .refl s
  | cons i l ih =>
    unfold releaseCars
    split
    · next h =>
      have hi : s.cars[i].state = .latched := by simpa using (Bool.and_eq_true_iff.mp h).1
      exact (State.release_serves hi).trans (ih _ _)
    · exact ih _ _

/-! ## The outcome of a transaction (R119) -/

section Outcome

variable {s t : State} {i : CarId}

/-- DRIVE_FAULT after a good reply (R124). -/
theorem State.followFault_serves (h : s.link.drives[i].lastGood ≠ none) (st : Byte) (code previous : Nat) :
    s.ServesOn (s.followFault i st code previous) := by
  have marked : ∀ b, s.ServesOn (s.setDriveFault i b) := fun b =>
    .of_car (c := { s.cars[i] with driveFault := b }) rfl rfl rfl ⟨.inl rfl, rfl, fun _ => .inr h, .inl ⟨rfl, rfl⟩⟩
  unfold followFault
  split
  · split
    · split
      · exact s.post_serves _ _ _ _
      · exact .refl s
    · exact ((marked true).trans (State.carCause_serves _ i _ _)).trans (State.post_serves _ _ _ _ _)
  · split
    · exact (marked false).trans (State.post_serves _ _ _ _ _)
    · exact .refl s

/-- A confirmed mismatch suspends the car, and makes its SUPERVISION member present with that (R90, R135, R136). -/
theorem State.confirmMismatch_serves (h : s.cars[i].state.computed = true) (p : Nat) (residual predicted : Int) :
    s.ServesOn (s.confirmMismatch i p residual predicted) := by
  have suspended : s.ServesOn ((s.setPersistence i 0).setSuspended i true) :=
    .of_record (c := { s.cars[i] with supervision := true }) rfl rfl rfl ⟨.inl rfl, rfl, .inl, .inr ⟨h, rfl⟩⟩
  have consulted : ∀ u : State, u.ServesOn (u.consult i p) := by
    intro u
    unfold consult raiseDoubt
    split
    · split
      · exact .refl u
      · exact .congr (.trans (State.post_serves _ _ _ _ _) (State.centreAll_serves _ _)) rfl rfl rfl
    · split
      · exact .refl u
      · exact .of_eq rfl rfl rfl
  exact ((suspended.trans (State.carCause_serves _ i _ _)).trans (State.post_serves _ _ _ _ _)).trans (consulted _)

theorem State.superviseReply_serves (h : s.cars[i].state.computed = true) (r : DriveReport) :
    s.ServesOn (s.superviseReply i r) := by
  have counted : ∀ n, s.ServesOn (s.setPersistence i n) := fun n => .of_eq rfl rfl rfl
  unfold superviseReply testResidual
  dsimp only
  (repeat' split)
  case h_2.isTrue.isTrue => exact confirmMismatch_serves h _ _ _
  all_goals exact counted _

/-- A good reply (R119 to R127). -/
theorem State.HealthSound.applyGood (h : s.HealthSound) (hp : s.cars[i].state.polled = true) (st : Byte)
    (r : DriveReport) : (s.applyGood i st r).HealthSound := by
  have hstored := s.healReply_stored i r
  generalize hheard : (s.healReply i).setDrive i { (s.healReply i).link.drives[i] with lastGood := some r } = heard
    at hstored
  have hfits := ((s.healthSoundAt_iff i).mp (h i)).healed hp r
  have sound : heard.HealthSound := h.of_one (by rw [hstored]) (by rw [hstored]) (by rw [hstored]) hfits
  have hknown : heard.link.drives[i].lastGood ≠ none := by rw [hstored]; simp
  have hstate : heard.cars[i].state = s.cars[i].state := by rw [hstored]; simp
  have follows := followFault_serves hknown st r.faultCode s.link.drives[i].lastCode
  by_cases hprobing : s.cars[i].state = .probing
  · have left := followFault_leavesTrain (hstate.trans hprobing) st r.faultCode s.link.drives[i].lastCode
    rw [applyGood_probing hprobing hheard]
    generalize heard.followFault i st r.faultCode s.link.drives[i].lastCode = followed at follows left
    have hfollowed : followed.cars[i].state = .probing := (left.state i).trans (hstate.trans hprobing)
    have followedSound := sound.serves follows
    have hfit := (followed.healthSoundAt_iff i).mp (followedSound i)
    by_cases hpasses : (st = 1 ∧ r.tilt.natAbs ≤ 50) ∧ 15 ≤ followed.link.drives[i].probing
    · rw [countProbe_passes hpasses]
      exact followedSound.of_one (by rw [transition_cars]; rfl) (by simp) (by simp) (hfit.passes hfollowed)
    · have hcount : (if st = 1 ∧ r.tilt.natAbs ≤ 50 then followed.link.drives[i].probing + 1 else 0) ≤ 15 := by
        split
        · next hl =>
          have hn : ¬ 15 ≤ followed.link.drives[i].probing := fun hn => hpasses ⟨hl, hn⟩
          omega
        · omega
      rw [countProbe_goes hpasses]
      exact followedSound.of_one (c := followed.cars[i]) (by simp) rfl rfl (hfit.probes hfollowed hcount)
  · rw [applyGood_inService hprobing hheard]
    split
    · exact sound.serves follows
    · have hcomputed : (heard.followFault i st r.faultCode s.link.drives[i].lastCode).cars[i].state.computed = true := by
        rw [(follows.cars i).computed, hstate]
        exact CarState.computed_of_polled hp hprobing
      exact (sound.serves follows).serves (superviseReply_serves hcomputed r)

/-- A miss or a corrupt reply (R120 to R123, R127). -/
theorem State.HealthSound.applyFailure (h : s.HealthSound) (hp : s.cars[i].state.polled = true) (corrupt : Bool) :
    (s.applyOutcome i (failure corrupt)).HealthSound := by
  have hfits := (s.healthSoundAt_iff i).mp (h i)
  by_cases hprobing : s.cars[i].state = .probing
  · have e := (s.failProbe_spec i corrupt).1
    rw [applyOutcome_failProbe hprobing]
    exact h.of_one (c := { s.cars[i].into .isolated with healthReduce := true }) (by rw [e]) (by rw [e]) (by rw [e])
      (hfits.isolates rfl rfl rfl rfl rfl)
  · rw [applyOutcome_failReply hp hprobing]
    by_cases hn : s.link.drives[i].health + 6 < 160
    · have e := (failReply_counted hn corrupt).1
      exact h.of_one (by rw [e]) (by rw [e]) (by rw [e]) (hfits.failed hp hn)
    · have e := (failReply_isolates (Nat.le_of_not_lt hn) corrupt).1
      have hwarned := hfits.warned (by omega)
      exact h.of_one (c := { s.cars[i].into .isolated with
          theta := 0, omega := 0, latchReason := none, healthReduce := true }) (by rw [e]) (by rw [e]) (by rw [e])
        (hfits.isolates hwarned rfl rfl rfl rfl)

theorem State.HealthSound.applyOutcome (h : s.HealthSound) (i : CarId) (o : TransactionEnd) :
    (s.applyOutcome i o).HealthSound := by
  cases hp : s.cars[i].state.polled with
  | false => rw [applyOutcome_unpolled hp]; exact h
  | true =>
    cases o with
    | good st r => rw [applyOutcome_good hp]; exact h.applyGood hp st r
    | corrupt => exact h.applyFailure hp true
    | miss => exact h.applyFailure hp false

theorem State.HealthSound.finish (h : s.HealthSound) (c : PollCycle) (o : TransactionEnd) :
    (s.finish c o).HealthSound := by
  have turned : ∀ u : State, u.ServesOn (u.endTransaction c) := fun u => by
    rw [u.endTransaction_eq]; exact .of_eq rfl rfl rfl
  exact (h.applyOutcome c.current o).serves (turned _)

end Outcome

end Sys2Proof.Machine
end

section
/-! SUPPORT. The soundness of health, kept by every command and so by every step (O56). -/

namespace Sys2Proof.Machine

/-! ## Commands that serve on -/

/-- The commands of the odometry, the conditions, the control frame, the cycle's start and a setpoint's last bit. -/
theorem exec_servesOn {c : Instr} {s t : State} (he : exec c s = .next t)
    (hc : (∃ dt ch f n, c = .tachoPulse dt ch f n) ∨ (∃ ch, c = .tachoStall ch) ∨ c = .comparisonWindow
      ∨ (∃ dt l, c = .markerPulse dt l) ∨ (∃ dt n, c = .inhibitSet dt n) ∨ (∃ dt n, c = .inhibitClear dt n)
      ∨ (∃ dt n, c = .clockWindow dt n) ∨ c = .linkSilentOnset ∨ c = .controlFrame ∨ c = .pollCycleExpiry
      ∨ c = .setpointSent) : s.ServesOn t := by
  rcases hc with ⟨dt, ch, f, n, rfl⟩ | ⟨ch, rfl⟩ | rfl | ⟨dt, l, rfl⟩ | ⟨dt, n, rfl⟩ | ⟨dt, n, rfl⟩ | ⟨dt, n, rfl⟩
    | rfl | rfl | rfl | rfl <;> injection he with he <;> subst he
  case inr.inr.inr.inl =>
    have sampled := State.ServesOn.of_foldl State.markerSample
      (fun s b => .of_eq (by simp) (by simp) (by simp)) l (s.after dt)
    exact sampled.congr rfl rfl rfl
  case inr.inr.inr.inr.inl =>
    dsimp only
    split
    · exact (State.centreAll_serves _ _).congr (by simp) (by simp) (by simp)
    · exact .of_eq (by simp) (by simp) (by simp)
  case inr.inr.inr.inr.inr.inr.inr.inl =>
    dsimp only
    (repeat' split)
    · exact (State.centreAll_serves _ _).congr (by simp) (by simp) (by simp)
    all_goals exact .of_eq (by simp) (by simp) (by simp)
  case inr.inr.inr.inr.inr.inr.inr.inr.inl =>
    have ended : ∀ (u : State) lead, u.ServesOn (u.evaluateLead lead).settle :=
      fun u lead => .of_eq (by simp) (by simp) (by simp)
    exact State.ServesOn.congr (.trans (frameCars_serves _ _ _ _ _) (ended _ _)) rfl rfl rfl
  all_goals
    (try dsimp only)
    (repeat' split) <;> exact .of_eq (by simp) (by simp) (by simp)

/-! ## Requests -/

/-- A position fix leaves the cars, but that a large one centres them (R17, R18). -/
theorem requestPositionFix_serves (n : Byte) (x : BitVec 32) (s : State) :
    s.ServesOn (requestPositionFix n x s).state := by
  cases hf : findCapture n s.odo.captures with
  | none => rw [requestPositionFix_missing hf]; exact .refl s
  | some found =>
    obtain ⟨captured, newer⟩ := found
    rw [requestPositionFix_found hf, Answer.done_state]
    generalize (x.toNat - captured : Int) = c
    have reported : s.ServesOn (s.fixReported c newer) :=
      .of_eq (by simp [State.fixReported, State.fixMoved]) (by simp [State.fixReported, State.fixMoved])
        (by simp [State.fixReported, State.fixMoved])
    unfold State.fixApplied
    split
    · exact reported.trans (State.centreAll_serves _ _)
    · exact reported

theorem requestResumeAll_serves (s : State) : s.ServesOn (requestResumeAll s).state :=
  releaseCars_serves _ _ _

/-- RESUME releases LATCHED cars alone (R104, R105). -/
theorem requestResume_serves (car : Byte) (s : State) : s.ServesOn (requestResume car s).state := by
  unfold requestResume
  split
  · exact requestResumeAll_serves s
  · split
    · exact .refl s
    · split
      · exact .refl s
      · next hlatched =>
        split
        · exact .refl s
        · exact State.release_serves (not_not.mp hlatched)

/-- Every request but CONFIGURE_TRAIN and READMIT leaves the drives, and moves cars within service alone. -/
theorem request_servesOn {c : Instr} {k tag : Byte} {m : State → Answer} (hm : requestMeaning c = some (k, tag, m))
    (hconfigure : ∀ g p, c ≠ .configureTrain g p) (hreadmit : ∀ g x, c ≠ .readmit g x) (s : State) :
    s.ServesOn (m s).state := by
  cases c <;> simp only [requestMeaning, reduceCtorEq, Option.some.injEq, Prod.mk.injEq] at hm <;>
    obtain ⟨-, -, rfl⟩ := hm
  case configureTrain g p => exact absurd rfl (hconfigure g p)
  case readmit g x => exact absurd rfl (hreadmit g x)
  case setTiltLaw g p =>
    unfold requestSetTiltLaw
    split
    · exact .refl s
    · rw [Answer.done_state]
      exact (State.ServesOn.of_foldl State.stageCar State.stageCar_serves allCars _).congr rfl rfl rfl
  case setTrainSet g p =>
    cases hbad : firstBad (trainSetChecks p) with
    | some n => rw [requestSetTrainSet_refused hbad]; exact .refl s
    | none =>
      rw [requestSetTrainSet_done hbad, Answer.done_state]
      split <;> exact .of_eq rfl rfl rfl
  case setModeRun g =>
    unfold requestSetModeRun
    (repeat' split) <;> exact .of_eq (by simp) (by simp) (by simp)
  case setModeConfig g =>
    unfold requestSetModeConfig
    split
    · have drained := State.ServesOn.of_foldl State.drainCar State.drainCar_serves allCars (s.changeMode .draining)
      exact (drained.trans (.of_eq (by simp) (by simp) (by simp))).congr (by simp) (by simp) (by simp)
    · exact .refl s
    · exact .refl s
  case setPosition g x =>
    unfold requestSetPosition
    (repeat' split) <;> exact .of_eq (by simp) (by simp) (by simp)
  case positionFix g n x => exact requestPositionFix_serves n x s
  case routeAppend g a rs =>
    unfold requestRouteAppend
    (repeat' split) <;> exact .of_eq (by simp [State.append]) (by simp [State.append]) (by simp [State.append])
  case routeTruncate g x =>
    unfold requestRouteTruncate
    (repeat' split) <;> exact .of_eq rfl rfl rfl
  case routeClear g => exact .of_eq rfl rfl rfl
  case routeConfirm g =>
    unfold requestRouteConfirm
    split <;> exact .of_eq rfl rfl rfl
  case resume g x => exact requestResume_serves x s
  case resumeAll g => exact requestResumeAll_serves s
  case queryCar g x => unfold requestQueryCar; split <;> exact .refl s
  case queryRoute g x => unfold requestQueryRoute; split <;> exact .refl s
  case restart g => unfold requestRestart; split <;> exact .of_eq rfl rfl rfl
  case identify | queryTrain => exact .refl s

section Sound

variable {s t : State}

/-- A setpoint takes the next sequence number of its drive (R115). -/
theorem State.HealthSound.setpointSend (h : s.HealthSound) {n : Nat} (he : execSetpointSend n s = .next t) :
    t.HealthSound := by
  injection he with he; subst he
  split
  · next c _ =>
    split
    · dsimp only
      split
      · exact h.of_one (c := s.cars[c.current]) (by simp) rfl rfl
          { (s.healthSoundAt_iff c.current).mp (h c.current) with }
      · exact h
    all_goals exact h
  · exact h

/-- READMIT puts the counter at 0 with the car PROBING (R103, R126). -/
theorem State.HealthSound.requestReadmit (h : s.HealthSound) (car : Byte) :
    (requestReadmit car s).state.HealthSound := by
  cases hcar : s.namedCar car with
  | none => rw [Machine.requestReadmit, hcar]; exact h
  | some i =>
    by_cases hi : s.cars[i].state = .isolated
    · rw [requestReadmit_isolated hcar hi, Answer.done_state]
      refine h.of_one (c := { s.cars[i].into .probing with healthReduce := false })
        (d := { s.link.drives[i] with health := 0, warned := false, probing := 0 }) ?_ ?_ ?_
        ((s.healthSoundAt_iff i).mp (h i)).readmitted
      · simp [State.readmitted, transition_cars, CarChannel.into]
      · simp [State.readmitted]
      · simp [State.readmitted]
    · have refused : Machine.requestReadmit car s = .refuse s .notIsolated := by
        rw [Machine.requestReadmit, hcar]; exact if_pos hi
      rw [refused]; exact h

/-- CONFIGURE_TRAIN makes OFFLINE cars part of the train, and forgets what was held of those it drops (R106). -/
theorem State.HealthSound.requestConfigureTrain (h : s.HealthSound) (p : TrainPayload) :
    (requestConfigureTrain p s).state.HealthSound := by
  by_cases hm : s.unit.mode = .config
  · cases hbad : firstBad (trainChecks p) with
    | some n => rw [requestConfigureTrain_refused hm hbad]; exact h
    | none =>
      obtain ⟨-, hcars, -⟩ := State.retrained_spec hm p
      have retrained : (s.retrained p).HealthSound := by
        intro i
        obtain ⟨hcar, hdrive, -, hmark⟩ := hcars i
        have hfits := (s.healthSoundAt_iff i).mp (h i)
        rw [healthSoundAt_iff, hcar, hdrive, hmark]
        by_cases henters : s.entering p.carCount.toNat i = true
        · have hoffline : s.cars[i].state = .offline := by simpa [entering] using (Bool.and_eq_true_iff.mp henters).2
          have hstays : s.leavingTrain p.carCount.toNat i = false := by simp [leavingTrain, hoffline, -Fin.getElem_fin]
          simp only [henters, hstays, if_true, Bool.false_eq_true, if_false]
          exact hfits.admitted hoffline _
        · simp only [henters, Bool.false_eq_true, if_false]
          split
          · exact .dropped _ _
          · exact hfits
      rw [requestConfigureTrain_done hm hbad, Answer.done_state]
      exact retrained.serves (.of_eq (by simp) (by simp) (by simp))
  · rw [requestConfigureTrain_wrongMode hm]; exact h

theorem State.HealthSound.request {c : Instr} {k tag : Byte} {m : State → Answer}
    (hm : requestMeaning c = some (k, tag, m)) (h : s.HealthSound) : (m s).state.HealthSound := by
  by_cases hconfigure : ∃ g p, c = .configureTrain g p
  · obtain ⟨g, p, rfl⟩ := hconfigure
    cases hm
    exact h.requestConfigureTrain p
  · by_cases hreadmit : ∃ g x, c = .readmit g x
    · obtain ⟨g, x, rfl⟩ := hreadmit
      cases hm
      exact h.requestReadmit x
    · exact h.serves (request_servesOn hm (fun g p e => hconfigure ⟨g, p, e⟩) (fun g x e => hreadmit ⟨g, x, e⟩) s)

/-! ## Every step -/

theorem State.HealthSound.hardwareReset {b : Bool} (he : execHardwareReset b s = .next t) : t.HealthSound := by
  injection he with he; subst he
  have blank : ({ State.blank (if b then .powerOn else .resetLine) with pending := s.pending } : State).HealthSound :=
    State.reset_healthSound.serves (.of_eq rfl rfl rfl)
  unfold State.postStarted
  exact blank.serves (.of_eq (by simp) (by simp) (by simp))

theorem State.HealthSound.restart (h : s.HealthSound) : s.restart.HealthSound := by
  intro i
  have hmark : s.restart.sup.suspended[i] = false := by rw [restart_eq]; simp [Supervisor.reset]
  obtain ⟨hcar, hdrive⟩ := s.restart_car i
  rw [healthSoundAt_iff, hcar, hdrive, hmark]
  exact ((s.healthSoundAt_iff i).mp (h i)).restarted _

theorem State.HealthSound.exec {c : Instr} (he : exec c s = .next t) (h : s.HealthSound) : t.HealthSound := by
  have control := fun hc => keeps_control (P := State.HealthSound) (fun _ _ h => h.serves (.of_eq rfl rfl rfl))
    (fun _ _ _ _ _ hm h => h.request hm) (fun _ h => h.serves (.of_eq (by simp) (by simp) (by simp)))
    (fun _ _ _ h => h.serves (.of_eq rfl rfl rfl)) (fun _ h => h.restart) c hc he h
  have polling := fun hc => keeps_polling (P := State.HealthSound)
    (fun _ _ _ _ h => h.serves (.of_eq rfl rfl rfl)) (fun _ c o h => h.finish c o) c hc he h
  have serves := fun hc => h.serves (exec_servesOn he hc)
  cases c
  case hardwareReset => exact .hardwareReset he
  case setpointSend => exact h.setpointSend he
  case turnWaitLimit | replyWindowClose | statusReception => exact polling (by simp)
  case tachoPulse | tachoStall | comparisonWindow | markerPulse | inhibitSet | inhibitClear | clockWindow
    | linkSilentOnset | controlFrame | pollCycleExpiry | setpointSent => exact serves (by simp)
  all_goals exact control (by simp [requestMeaning])

/-- Settles O56: the outcome of a transaction, CONFIGURE_TRAIN, READMIT and RESTART keep a car's record, drive and
mark fitting, and every other event leaves the drives and moves cars within service alone. -/
theorem healthStaysSound : Obligations.HealthStaysSound := by
  intro s t hstep h
  rcases step_cases hstep with ⟨c, rest, -, he⟩ | ⟨c, -, -, he⟩ | ⟨-, -, rfl⟩
  · exact .exec he (h.serves (.of_eq rfl rfl rfl))
  · exact .exec he h
  · exact h.serves (.of_eq rfl rfl rfl)

end Sound

end Sys2Proof.Machine
end

section
/-! SUPPORT. RESUME: what a release leaves of its car, and the releases of every car together (O38). -/

namespace Sys2Proof.Machine

/-! ## Releases (R104, R109) -/

/-- The record that a release leaves (R104). -/
def CarChannel.released (c : CarChannel) : CarChannel := { c.into .centred with latchReason := none }

section Release

variable {s : State} {i : CarId}

theorem State.release_get (s : State) (i j : CarId) :
    (s.release i).cars[j] = if i = j then s.cars[i].released else s.cars[j] := by
  have hcars : (s.release i).cars = s.cars.set i s.cars[i].released := by
    rw [release, transition_cars, setLatch_get, if_pos rfl]
    simp [CarChannel.released, CarChannel.into]
  rw [hcars]
  exact s.setCar_get i j _

/-- A release completes no drain: LATCHED and CENTRED cars have both drained (R100, R104). -/
theorem State.release_turn (hs : s.Unfinished) (h : s.cars[i].state = .latched) :
    s.CarTurn i s.cars[i].released [s.carNotice i .centred .resumeRequest] (s.release i) := by
  let c : CarChannel := { s.cars[i] with latchReason := none }
  have unlatched : s.CarTurn i c [] (s.setCar i c) := ⟨rfl, .refl _⟩
  have hstate : (s.setCar i c).cars[i].state = .latched := by rw [setCar_get, if_pos rfl]; exact h
  have hrelease : s.release i = (s.setCar i c).enter i .centred .resumeRequest :=
    (s.setCar i c).transition_same i .centred .resumeRequest (unlatched.unfinished hs rfl) (by rw [hstate]; rfl)
  rw [hrelease]
  exact s.setCar_enter_turn i c .centred .resumeRequest

theorem CarChannel.releasable_latched {c : CarChannel} (h : c.releasable = true) : c.state = .latched := by
  simpa using (Bool.and_eq_true_iff.mp h).1

/-! ## The releases of every car (R105) -/

/-- A car's turn in RESUME of every car. -/
def State.releaseTurn (s : State) (i : CarId) : State := if s.cars[i].releasable then s.release i else s

/-- The releases are the cars' turns, and the count that of the cars that are releasable at the start. -/
theorem releaseCars_turns {l : List CarId} (hl : l.Nodup) (s : State) (n : Nat) :
    releaseCars l s n
      = (l.foldl State.releaseTurn s, n + (l.filter (fun i => s.cars[i].releasable)).length) := by
  induction l generalizing s n with
  | nil => rfl
  | cons i l ih =>
    obtain ⟨hi, hl⟩ := List.nodup_cons.mp hl
    rw [releaseCars, List.foldl_cons, State.releaseTurn]
    split
    · next h =>
      have hother : l.filter (fun j => (s.release i).cars[j].releasable) = l.filter (fun j => s.cars[j].releasable) :=
        List.filter_congr fun j hj => by
          have hij : i ≠ j := fun e => hi (e ▸ hj)
          rw [s.release_get i j, if_neg hij]
      rw [ih hl, hother, List.filter_cons, if_pos h, List.length_cons, Nat.add_right_comm, Nat.add_assoc]
    · next h => rw [ih hl, List.filter_cons, if_neg h]

/-- RESUME of every car releases each LATCHED car whose cause has ended, with a notice for each (R105, R109). -/
theorem State.releaseAll_spec (hs : s.Unfinished) :
    let t := s.configured.foldl State.releaseTurn s
    let freed := s.configured.filter (fun i => s.cars[i].releasable)
    s.SameButCars t
      ∧ (∀ i : CarId, t.cars[i] = if i ∈ freed then s.cars[i].released else s.cars[i])
      ∧ s.ctl.Reports t.ctl [] (freed.map (fun i => s.carNotice i .centred .resumeRequest)) := by
  have turn : ∀ (u : State) (i : CarId), u.Unfinished →
      u.CarTurn i (if u.cars[i].releasable then u.cars[i].released else u.cars[i])
        (if u.cars[i].releasable then [u.carNotice i .centred .resumeRequest] else []) (u.releaseTurn i) := by
    intro u i hu
    unfold releaseTurn
    split
    · next h => exact release_turn hu (CarChannel.releasable_latched h)
    · exact .still u i
  obtain ⟨hsame, hcars, hreports⟩ := carTurns (l := s.configured) turn
    (fun u i hu => by
      refine (turn u i hu).unfinished hu ?_
      split
      · next h => rw [CarChannel.releasable_latched h]; rfl
      · rfl)
    (fun u v i hsame hi => by
      have hodo : v.odo = u.odo := by rw [hsame]
      simp only [carNotice, notice, hodo, hi, and_self])
    (s.configured_sorted.imp ne_of_lt) hs
  refine ⟨hsame, fun i => ?_, ?_⟩
  · rw [hcars i]
    by_cases hi : i ∈ s.configured <;> simp only [hi, List.mem_filter, if_true, if_false, true_and, false_and]
  · rw [← flatMap_ite_singleton]
    exact hreports

end Release

theorem CarChannel.latchActive_iff (c : CarChannel) :
    c.latchActive = true ↔ c.latchReason = some .driveFault ∧ c.driveFault = true := by
  simp [latchActive]

/-- RESUME of a named car of the train (R104). -/
theorem requestResume_named {s : State} {car : Byte} {i : CarId} (hcar : i.val = car.toNat)
    (hi : i.val < s.unit.settings.carCount) :
    requestResume car s = if s.cars[i].state ≠ .latched then .refuse s .notLatched
      else if s.cars[i].latchActive then .refuse s .causeActive else .done (s.release i) [1] := by
  have hnotAll : car ≠ 0xFF := by
    rintro rfl
    exact absurd (hcar ▸ i.isLt) (by decide)
  rw [requestResume, if_neg hnotAll, State.namedCar_some hcar hi]

/-- A request is answered after what it changes, with the notices of that. -/
theorem ControlLink.Reports.replied {c : ControlLink} {t : State} {told : List Notice} (h : c.Reports t.ctl [] told)
    (r : Reply) : c.Reports (t.replied r).ctl [r] told := by
  have hr := h.trans (t.replied_reports r)
  rwa [List.append_nil] at hr

/-- Settles O38: the three refusals in order, one release by `release_turn`, and those of every car by
`releaseAll_spec`. -/
theorem resumeReleasesLatchedCars : Obligations.ResumeReleasesLatchedCars := by
  intro tag s hready hs
  refine ⟨fun car hcar hout => ?_, fun car i hcar hi => ?_, ?_⟩
  · rw [exec_ready (c := .resume tag car) rfl hready, requestResume, if_neg hcar, State.namedCar_none hout]
    rfl
  · have hexec := exec_ready (c := .resume tag car) rfl hready
    rw [requestResume_named hcar hi] at hexec
    refine ⟨fun hstate => ?_, fun hstate hactive => ?_, fun hstate hactive => ?_⟩
    · rw [hexec, if_pos hstate]; rfl
    · rw [hexec, if_neg (not_not.mpr hstate), if_pos ((CarChannel.latchActive_iff _).mpr hactive)]; rfl
    · have turn := State.release_turn hs.draining hstate
      have hdone : exec (.resume tag car) s = .next ((s.release i).replied ⟨0x8C, tag, .ok, [1]⟩) := by
        rw [hexec, if_neg (not_not.mpr hstate), if_neg ((CarChannel.latchActive_iff _).not.mpr hactive)]; rfl
      refine ⟨_, hdone, ?_, turn.reports.replied _⟩
      rw [State.replied, turn.eq]
      rfl
  · intro freed
    obtain ⟨hsame, hcars, hreports⟩ := State.releaseAll_spec (s := s) hs.draining
    have hdone : exec (.resumeAll tag) s = .next ((s.configured.foldl State.releaseTurn s).replied
        ⟨0x8C, tag, .ok, [BitVec.ofNat 8 freed.length]⟩) := by
      rw [exec_ready (c := .resumeAll tag) rfl hready, requestResumeAll,
        releaseCars_turns (s.configured_sorted.imp ne_of_lt), Nat.zero_add]
      rfl
    refine ⟨_, hdone, ?_, hcars, hreports.replied _⟩
    rw [State.SameButCars] at hsame
    rw [State.replied, hsame]

end Sys2Proof.Machine
end

section
/-! SUPPORT. SET_MODE: the turns of the cars at the start of a drain, and the drain that ends with them (O39). -/

namespace Sys2Proof.Machine

/-! ## The start of a drain (R100) -/

/-- The car that the start of a drain sends to RETURNING (R100). -/
def State.drainsNow (s : State) (i : CarId) : Bool := s.cars[i].state == .tracking && s.mustDrain s.cars[i]

section Drain

variable {s : State}

theorem State.drainsNow_iff (s : State) (i : CarId) :
    s.drainsNow i = true ↔ s.cars[i].state = .tracking ∧ s.mustDrain s.cars[i] = true := by
  rw [drainsNow, Bool.and_eq_true, beq_iff_eq]

theorem State.drainCar_turn (h : s.TrackingConfigured) (i : CarId) :
    s.CarTurn i (if s.drainsNow i then s.cars[i].into .returning else s.cars[i])
      (if s.drainsNow i then [s.carNotice i .returning .drain] else []) (s.drainCar i) := by
  have hdrains : s.drains i = s.mustDrain s.cars[i] := rfl
  obtain ⟨e, r⟩ := s.centreCar_spec .drain i h
  unfold drainCar
  rw [hdrains]
  by_cases hd : s.mustDrain s.cars[i] = true
  · by_cases ht : s.cars[i].state = .tracking
    · rw [CarChannel.centred, if_pos ht] at e
      rw [if_pos ht] at r
      rw [if_pos hd, if_pos ((s.drainsNow_iff i).mpr ⟨ht, hd⟩), if_pos ((s.drainsNow_iff i).mpr ⟨ht, hd⟩)]
      exact ⟨e, r⟩
    · have hnot : ¬ s.drainsNow i = true := fun hn => ht ((s.drainsNow_iff i).mp hn).1
      rw [if_pos hd, if_neg hnot, if_neg hnot, centreCar, if_neg ht]
      exact .still s i
  · have hnot : ¬ s.drainsNow i = true := fun hn => hd ((s.drainsNow_iff i).mp hn).2
    rw [if_neg hd, if_neg hnot, if_neg hnot]
    exact .still s i

/-- The start of a drain sends the TRACKING cars whose drain test holds to RETURNING (R100). -/
theorem State.drainAll_spec (h : s.TrackingConfigured) :
    let t := allCars.foldl State.drainCar s
    s.SameButCars t
      ∧ (∀ i : CarId, t.cars[i] = if s.drainsNow i then s.cars[i].into .returning else s.cars[i])
      ∧ s.ctl.Reports t.ctl [] ((allCars.filter s.drainsNow).map (fun i => s.carNotice i .returning .drain)) := by
  obtain ⟨hsame, hcars, hreports⟩ := carTurns (f := State.drainCar) (Inv := State.TrackingConfigured)
    (fun u i hu => u.drainCar_turn hu i)
    (fun u i hu => by
      intro hm j hj
      rw [(drainCar_turn hu i).eq] at hm ⊢
      refine hu hm j ?_
      rw [(drainCar_turn hu i).get] at hj
      split at hj
      · next hij =>
        subst hij
        split at hj
        · cases hj
        · exact hj
      · exact hj)
    (fun u v i hsame hi => by
      have hodo : v.odo = u.odo := by rw [hsame]
      have hroute : v.route = u.route := by rw [hsame]
      have hgate : v.gateOpen = u.gateOpen := by rw [hsame]
      have hnow : v.drainsNow i = u.drainsNow i := by simp only [drainsNow, mustDrain, hroute, hgate, hi]
      simp only [hnow, carNotice, notice, hodo, hi, and_self])
    (l := allCars) (by decide) h
  refine ⟨hsame, fun i => (hcars i).trans (if_pos (mem_allCars i)), ?_⟩
  rw [← flatMap_ite_singleton]
  exact hreports

/-- A car that starts to drain has not drained, as it had not before (R100). -/
theorem State.drainsNow_drained (s : State) (i : CarId) :
    (if s.drainsNow i then s.cars[i].into .returning else s.cars[i]).state.drained = s.cars[i].state.drained := by
  split
  · next h => rw [((s.drainsNow_iff i).mp h).1]; rfl
  · rfl

/-! ## SET_MODE CONFIG in RUN (R99, R100) -/

/-- The drain started, and ended at once where every configured car has drained (R99, R100). -/
def State.drainStarted (s : State) : State := (allCars.foldl State.drainCar (s.changeMode .draining)).settle

theorem requestSetModeConfig_run (hm : s.unit.mode = .run) :
    requestSetModeConfig s = .done s.drainStarted [BitVec.ofNat 8 s.drainStarted.unit.mode.code] := by
  simp only [requestSetModeConfig, hm, State.drainStarted]

/-- Where every configured car has drained, none is TRACKING, so none starts to drain. -/
theorem State.drainsNow_none (hs : s.CarsSound)
    (hdone : ∀ i : CarId, i.val < s.unit.settings.carCount → s.cars[i].state.drained = true) :
    allCars.filter s.drainsNow = [] := by
  refine List.filter_eq_nil_iff.mpr fun i _ hi => ?_
  have htracking := ((s.drainsNow_iff i).mp hi).1
  have hconfigured : i.val < s.unit.settings.carCount := by
    by_contra hout
    have hoffline := (hs.cars i).offline.mpr (Nat.le_of_not_lt hout)
    rw [htracking] at hoffline
    cases hoffline
  have := hdone i hconfigured
  rw [htracking] at this
  cases this

theorem State.drainStarted_spec (hs : s.CarsSound) (hm : s.unit.mode = .run) :
    let t := s.drainStarted
    let complete := ∀ i : CarId, i.val < s.unit.settings.carCount → s.cars[i].state.drained = true
    let drained := allCars.filter s.drainsNow
    t = { s with cars := t.cars, unit := t.unit, ctl := t.ctl }
      ∧ (∀ i : CarId, t.cars[i] = if i ∈ drained then s.cars[i].into .returning else s.cars[i])
      ∧ (complete → t.unit = { s.unit with mode := .config }
        ∧ s.ctl.Reports t.ctl [] [s.modeNotice .draining .run, s.modeNotice .config .draining])
      ∧ (¬ complete → t.unit = { s.unit with mode := .draining }
        ∧ s.ctl.Reports t.ctl []
          (s.modeNotice .draining .run :: drained.map (fun i => s.carNotice i .returning .drain))) := by
  intro t complete drained
  have eu := s.changeMode_eq .draining
  have ru := s.changeMode_reports .draining
  rw [hm] at ru
  have ht : (allCars.foldl State.drainCar (s.changeMode .draining)).settle = t := rfl
  generalize s.changeMode .draining = u at eu ru ht
  have hcaru : u.cars = s.cars := by rw [eu]
  have hnow : u.drainsNow = s.drainsNow := by rw [eu]; rfl
  have htracking : u.TrackingConfigured := by
    intro _ i hi
    rw [eu] at hi ⊢
    by_contra hout
    have hoffline := (hs.cars i).offline.mpr (Nat.le_of_not_lt hout)
    rw [hi] at hoffline
    cases hoffline
  obtain ⟨hsame, hcars, hreports⟩ := State.drainAll_spec htracking
  obtain ⟨et, hends, hgoes⟩ := State.settle_after hsame hreports
  rw [ht] at et hends hgoes
  generalize allCars.foldl State.drainCar u = w at hsame hcars hreports et hends hgoes
  rw [hnow] at hends hgoes
  have hnotice : ∀ new old, u.modeNotice new old = s.modeNotice new old := by rw [eu]; intros; rfl
  have hcarNotice : (fun i => u.carNotice i .returning .drain) = fun i => s.carNotice i .returning .drain := by
    rw [eu]; rfl
  have hdrains : u.drainEnds w.cars ↔ complete := by
    have hcount : u.unit.settings.carCount = s.unit.settings.carCount := by rw [eu]
    have hmode : u.unit.mode = .draining := by rw [eu]
    have hdrained : ∀ i : CarId, w.cars[i].state.drained = s.cars[i].state.drained := fun i => by
      rw [hcars i, u.drainsNow_drained, hcaru]
    simp only [State.drainEnds, hmode, hcount, hdrained, true_and, complete]
  refine ⟨?_, fun i => ?_, fun hc => ?_, fun hc => ?_⟩
  · rw [eu] at et
    rw [et]
  · have hmem : i ∈ drained ↔ s.drainsNow i = true := by simp [drained, mem_allCars]
    have htcars : t.cars = w.cars := by rw [et]
    simp only [htcars, hcars i, hnow, hcaru, hmem]
  · obtain ⟨hunit, hr⟩ := hends (hdrains.mpr hc)
    rw [s.drainsNow_none hs hc, hnotice] at hr
    exact ⟨by rw [hunit, eu], ru.trans hr⟩
  · obtain ⟨hunit, hr⟩ := hgoes (hdrains.not.mpr hc)
    rw [hcarNotice] at hr
    exact ⟨by rw [hunit, eu], ru.trans hr⟩

end Drain

/-- Settles O39: Table 9-5 case by case, and the drain started and perhaps ended in the same event
(`drainStarted_spec`). -/
theorem modeSet : Obligations.ModeSet := by
  intro tag s hready hs
  have hrun := exec_ready (c := .setModeRun tag) rfl hready
  have hconfig := exec_ready (c := .setModeConfig tag) rfl hready
  refine ⟨fun hm hcount => ?_, fun hm hcount hpos => ?_, fun hm hcount hpos => ?_, fun hm => ?_, fun hm => ?_,
    fun hm => ?_, fun hm => ?_, fun hm => ?_⟩
  · rw [hrun]; simp only [requestSetModeRun, hm, hcount, if_true]; rfl
  · rw [hrun]; simp only [requestSetModeRun, hm, hcount, hpos, if_false, Bool.false_eq_true]; rfl
  · have hdone : requestSetModeRun s = .done (s.changeMode .run) [1] := by
      simp only [requestSetModeRun, hm, hcount, hpos, if_false, if_true]; rfl
    have hreports := s.changeMode_reports .run
    rw [hm] at hreports
    rw [hdone] at hrun
    refine ⟨_, hrun, ?_, hreports.replied _⟩
    rw [Answer.done_state, State.replied, s.changeMode_eq .run]
  · rw [hrun]; simp only [requestSetModeRun, hm]; rfl
  · rw [hrun]; simp only [requestSetModeRun, hm]; rfl
  · rw [hconfig]; simp only [requestSetModeConfig, hm]; rfl
  · rw [hconfig]; simp only [requestSetModeConfig, hm]; rfl
  · intro drained complete
    obtain ⟨e, hcars, hends, hgoes⟩ := State.drainStarted_spec hs hm
    rw [requestSetModeConfig_run hm, Answer.done_state] at hconfig
    generalize s.drainStarted = t at e hcars hends hgoes hconfig
    refine ⟨_, hconfig, ?_, hcars, fun hc => ?_, fun hc => ?_⟩
    · rw [State.replied, e]
    · obtain ⟨hunit, hr⟩ := hends hc
      have hcode : BitVec.ofNat 8 t.unit.mode.code = 0 := by rw [hunit]; rfl
      refine ⟨hunit, ?_⟩
      rw [hcode]
      exact hr.replied _
    · obtain ⟨hunit, hr⟩ := hgoes hc
      have hcode : BitVec.ofNat 8 t.unit.mode.code = 2 := by rw [hunit]; rfl
      refine ⟨hunit, ?_⟩
      rw [hcode]
      exact hr.replied _

end Sys2Proof.Machine
end

section
/-! SUPPORT. SET_TILT_LAW: its fields judged, and the records that take the staged law at once (O41). -/

namespace Sys2Proof.Machine

/-! ## The fields (Table 9-3) -/

/-- ACCEL is in range in steps of 50 (Table 9-3). -/
theorem accelGood_iff (n : Nat) : (within 50 4000 n && n % 50 == 0) = true ↔ 50 ≤ n ∧ n ≤ 4000 ∧ 50 ∣ n := by
  rw [Bool.and_eq_true, within_iff, beq_iff_eq, Nat.dvd_iff_mod_eq_zero, and_assoc]

/-- Each check of SET_TILT_LAW says whether its field is in range (Table 9-3). -/
theorem lawChecks_good (p : LawPayload) : ∀ f ∈ lawChecks p, f.2 = true ↔ p.FieldGood f.1 := by
  simp only [lawChecks, List.forall_mem_cons]
  exact ⟨within_zero_iff _ _, within_zero_iff _ _, within_zero_iff _ _, within_zero_iff _ _, within_iff _ _ _,
    accelGood_iff _, fun _ h => by cases h⟩

/-- SET_TILT_LAW has 6 fields (Table 9-3). -/
theorem law_good_of_le (p : LawPayload) {n : Nat} (h : 6 ≤ n) : p.FieldGood n := by
  obtain ⟨m, rfl⟩ := Nat.exists_eq_add_of_le' h
  exact trivial

theorem law_judged (p : LawPayload) :
    (firstBad (lawChecks p) = none ↔ ∀ n, p.FieldGood n)
      ∧ ∀ n, ¬ p.FieldGood n → (∀ m < n, p.FieldGood m) → firstBad (lawChecks p) = some n :=
  firstBad_range rfl (lawChecks_good p) (fun _ => law_good_of_le p)

/-! ## The records that take the law at once (R95, R96) -/

/-- The record takes a staged law at once (R95, R96). -/
def State.takesNow (s : State) (i : CarId) : Bool :=
  s.unit.mode == .config || (s.cars[i].theta == 0 && s.cars[i].omega == 0
    && s.cars[i].state != .tracking && s.cars[i].state != .returning)

/-- The notice of a law taken (R110). -/
def State.lawNotice (s : State) (i : CarId) : Notice :=
  s.notice .paramApplied (some i) s.unit.stagedGeneration (u16 s.cars[i].state.code)

theorem State.stageCar_turn (s : State) (i : CarId) :
    s.CarTurn i (if s.takesNow i then s.withStagedLaw s.cars[i] else s.cars[i])
      (if s.takesNow i && s.cars[i].state != .offline then [s.lawNotice i] else []) (s.stageCar i) := by
  have hcondition : s.stageCar i = if s.takesNow i then
      (if s.cars[i].state = .offline then s.copyLaw i else s.takeLaw i) else s := rfl
  rw [hcondition]
  cases htakes : s.takesNow i with
  | false => exact .still s i
  | true =>
    by_cases hoffline : s.cars[i].state = .offline
    · simp only [hoffline, if_true, Bool.true_and, bne_self_eq_false, Bool.false_eq_true, if_false]
      exact ⟨rfl, .refl _⟩
    · have hnotice : (true && s.cars[i].state != .offline) = true := by simpa using hoffline
      rw [if_neg hoffline, hnotice]
      exact s.setCar_post_turn i _ _ _ _ _

/-- The staged law is taken by the records that may take it at once, with a notice for each car of the train (R95,
R96, R110). -/
theorem State.stageAll_spec (s : State) :
    let t := allCars.foldl State.stageCar s
    s.SameButCars t
      ∧ (∀ i : CarId, t.cars[i] = if s.takesNow i then s.withStagedLaw s.cars[i] else s.cars[i])
      ∧ s.ctl.Reports t.ctl []
          ((allCars.filter (fun i => s.takesNow i && s.cars[i].state != .offline)).map s.lawNotice) := by
  obtain ⟨hsame, hcars, hreports⟩ := carTurns (f := State.stageCar) (Inv := fun _ => True)
    (fun u i _ => u.stageCar_turn i) (fun _ _ _ => trivial)
    (fun u v i hsame hi => by
      have hunit : v.unit = u.unit := by rw [hsame]
      have hodo : v.odo = u.odo := by rw [hsame]
      have hnow : v.takesNow i = u.takesNow i := by simp only [takesNow, hunit, hi]
      simp only [hnow, withStagedLaw, lawNotice, notice, hunit, hodo, hi, and_self])
    (l := allCars) (by decide) trivial
  refine ⟨hsame, fun i => (hcars i).trans (if_pos (mem_allCars i)), ?_⟩
  rw [← flatMap_ite_singleton]
  exact hreports

/-! ## SET_TILT_LAW (R170, R172) -/

/-- The law staged under the next generation (R172). -/
def State.lawStaged (s : State) (p : LawPayload) : State :=
  { s with unit := { s.unit with stagedLaw := lawOf p, stagedGeneration := s.unit.stagedGeneration + 1 } }

section Staged

variable {s : State} {p : LawPayload}

theorem requestSetTiltLaw_refused {n : Nat} (h : firstBad (lawChecks p) = some n) :
    requestSetTiltLaw p s = .refuse s .outOfRange [BitVec.ofNat 8 n] := by
  rw [requestSetTiltLaw, h]

theorem requestSetTiltLaw_done (h : firstBad (lawChecks p) = none) :
    requestSetTiltLaw p s
      = .done (allCars.foldl State.stageCar (s.lawStaged p)) (bytes16 (s.unit.stagedGeneration + 1)) := by
  simp only [requestSetTiltLaw, h, State.lawStaged]

end Staged

/-- Settles O41: the judging is `law_judged`, and the records that take the law at once are `stageAll_spec`'s. -/
theorem lawStagedAndTaken : Obligations.LawStagedAndTaken := by
  intro tag p s hready
  have hexec := exec_ready (c := .setTiltLaw tag p) rfl hready
  obtain ⟨hgood, hbad⟩ := law_judged p
  refine ⟨fun n hn hfirst => ?_, fun hall => ?_⟩
  · rw [hexec, requestSetTiltLaw_refused (hbad n hn hfirst)]; rfl
  intro g takes law
  obtain ⟨hsame, hcars, hreports⟩ := (s.lawStaged p).stageAll_spec
  rw [requestSetTiltLaw_done (hgood.mpr hall), Answer.done_state] at hexec
  generalize allCars.foldl State.stageCar (s.lawStaged p) = t at hexec hsame hcars hreports
  refine ⟨_, hexec, ?_, hcars, hreports.replied _⟩
  rw [State.SameButCars] at hsame
  rw [State.replied, hsame]
  rfl

end Sys2Proof.Machine
end
